-- ==== Sys2Proof/Word.lean ====
section
/-! DEFINITION. The word types of the machine: bytes, 16-bit words and shades (00_scope.md R7, 60_exceptions.md R457). -/

namespace Sys2Proof

/-- `u8` of R7: a register half, a memory byte, an immediate byte. -/
abbrev Byte := BitVec 8

/-- `u16` of R7: PC, SP, a register pair, an address while it is computed. -/
abbrev Word := BitVec 16

/-- A framebuffer shade, 0 to 3 (R44, R457); a 2-bit colour index has the same width (R452). -/
abbrev Shade := BitVec 2

end Sys2Proof
end

