-- ==== Sys2Proof/Syntax.lean ====
section
/-! DEFINITION. The instructions: one constructor for each row of spec/opcode_table.json
(30_encoding.md R149, R151): first the rows with an immediate operand, then the others, each in the table's order.
An argument is an immediate operand (R142); register, bit and target operands are part of the opcode and so of the
constructor's name. `Mem…` is a memory operand in parentheses. -/

namespace Sys2Proof

/-- The 256 primary and the 256 secondary opcode slots (R149, R151). -/
inductive Instr where
  /-- `LD BC,d16`, 0x01 (R220). -/
  | ldBcD16 (d : Word)
  /-- `LD B,d8`, 0x06 (R204). -/
  | ldBD8 (n : Byte)
  /-- `LD (a16),SP`, 0x08 (R221). -/
  | ldMemA16Sp (a : Word)
  /-- `LD C,d8`, 0x0E (R204). -/
  | ldCD8 (n : Byte)
  /-- `LD DE,d16`, 0x11 (R220). -/
  | ldDeD16 (d : Word)
  /-- `LD D,d8`, 0x16 (R204). -/
  | ldDD8 (n : Byte)
  /-- `JR e8`, 0x18 (R324). -/
  | jrE8 (e : Byte)
  /-- `LD E,d8`, 0x1E (R204). -/
  | ldED8 (n : Byte)
  /-- `JR NZ,e8`, 0x20 (R325). -/
  | jrNzE8 (e : Byte)
  /-- `LD HL,d16`, 0x21 (R220). -/
  | ldHlD16 (d : Word)
  /-- `LD H,d8`, 0x26 (R204). -/
  | ldHD8 (n : Byte)
  /-- `JR Z,e8`, 0x28 (R325). -/
  | jrZE8 (e : Byte)
  /-- `LD L,d8`, 0x2E (R204). -/
  | ldLD8 (n : Byte)
  /-- `JR NC,e8`, 0x30 (R325). -/
  | jrNcE8 (e : Byte)
  /-- `LD SP,d16`, 0x31 (R220). -/
  | ldSpD16 (d : Word)
  /-- `LD (HL),d8`, 0x36 (R205). -/
  | ldMemHlD8 (n : Byte)
  /-- `JR C,e8`, 0x38 (R325). -/
  | jrCE8 (e : Byte)
  /-- `LD A,d8`, 0x3E (R204). -/
  | ldAD8 (n : Byte)
  /-- `JP NZ,a16`, 0xC2 (R322). -/
  | jpNzA16 (a : Word)
  /-- `JP a16`, 0xC3 (R321). -/
  | jpA16 (a : Word)
  /-- `CALL NZ,a16`, 0xC4 (R327). -/
  | callNzA16 (a : Word)
  /-- `ADD A,d8`, 0xC6 (R251). -/
  | addAD8 (n : Byte)
  /-- `JP Z,a16`, 0xCA (R322). -/
  | jpZA16 (a : Word)
  /-- `PREFIX CB`, 0xCB (R355). -/
  | prefixCb (c : Byte)
  /-- `CALL Z,a16`, 0xCC (R327). -/
  | callZA16 (a : Word)
  /-- `CALL a16`, 0xCD (R326). -/
  | callA16 (a : Word)
  /-- `ADC A,d8`, 0xCE (R252). -/
  | adcAD8 (n : Byte)
  /-- `JP NC,a16`, 0xD2 (R322). -/
  | jpNcA16 (a : Word)
  /-- `CALL NC,a16`, 0xD4 (R327). -/
  | callNcA16 (a : Word)
  /-- `SUB d8`, 0xD6 (R253). -/
  | subD8 (n : Byte)
  /-- `JP C,a16`, 0xDA (R322). -/
  | jpCA16 (a : Word)
  /-- `CALL C,a16`, 0xDC (R327). -/
  | callCA16 (a : Word)
  /-- `SBC A,d8`, 0xDE (R254). -/
  | sbcAD8 (n : Byte)
  /-- `LDH (a8),A`, 0xE0 (R213). -/
  | ldhMemA8A (n : Byte)
  /-- `AND d8`, 0xE6 (R255). -/
  | andD8 (n : Byte)
  /-- `ADD SP,e8`, 0xE8 (R303). -/
  | addSpE8 (e : Byte)
  /-- `LD (a16),A`, 0xEA (R211). -/
  | ldMemA16A (a : Word)
  /-- `XOR d8`, 0xEE (R256). -/
  | xorD8 (n : Byte)
  /-- `LDH A,(a8)`, 0xF0 (R212). -/
  | ldhAMemA8 (n : Byte)
  /-- `OR d8`, 0xF6 (R257). -/
  | orD8 (n : Byte)
  /-- `LD HL,SP+e8`, 0xF8 (R304). -/
  | ldHlSpE8 (e : Byte)
  /-- `LD A,(a16)`, 0xFA (R210). -/
  | ldAMemA16 (a : Word)
  /-- `CP d8`, 0xFE (R258). -/
  | cpD8 (n : Byte)
  /-- `NOP`, 0x00 (R350). -/
  | nop
  /-- `LD (BC),A`, 0x02 (R208). -/
  | ldMemBcA
  /-- `INC BC`, 0x03 (R301). -/
  | incBc
  /-- `INC B`, 0x04 (R259). -/
  | incB
  /-- `DEC B`, 0x05 (R261). -/
  | decB
  /-- `RLCA`, 0x07 (R267). -/
  | rlca
  /-- `ADD HL,BC`, 0x09 (R300). -/
  | addHlBc
  /-- `LD A,(BC)`, 0x0A (R206). -/
  | ldAMemBc
  /-- `DEC BC`, 0x0B (R302). -/
  | decBc
  /-- `INC C`, 0x0C (R259). -/
  | incC
  /-- `DEC C`, 0x0D (R261). -/
  | decC
  /-- `RRCA`, 0x0F (R269). -/
  | rrca
  /-- `STOP`, 0x10 (R352). -/
  | stop
  /-- `LD (DE),A`, 0x12 (R209). -/
  | ldMemDeA
  /-- `INC DE`, 0x13 (R301). -/
  | incDe
  /-- `INC D`, 0x14 (R259). -/
  | incD
  /-- `DEC D`, 0x15 (R261). -/
  | decD
  /-- `RLA`, 0x17 (R268). -/
  | rla
  /-- `ADD HL,DE`, 0x19 (R300). -/
  | addHlDe
  /-- `LD A,(DE)`, 0x1A (R207). -/
  | ldAMemDe
  /-- `DEC DE`, 0x1B (R302). -/
  | decDe
  /-- `INC E`, 0x1C (R259). -/
  | incE
  /-- `DEC E`, 0x1D (R261). -/
  | decE
  /-- `RRA`, 0x1F (R270). -/
  | rra
  /-- `LD (HL+),A`, 0x22 (R218). -/
  | ldMemHlIncA
  /-- `INC HL`, 0x23 (R301). -/
  | incHl
  /-- `INC H`, 0x24 (R259). -/
  | incH
  /-- `DEC H`, 0x25 (R261). -/
  | decH
  /-- `DAA`, 0x27 (R263). -/
  | daa
  /-- `ADD HL,HL`, 0x29 (R300). -/
  | addHlHl
  /-- `LD A,(HL+)`, 0x2A (R216). -/
  | ldAMemHlInc
  /-- `DEC HL`, 0x2B (R302). -/
  | decHl
  /-- `INC L`, 0x2C (R259). -/
  | incL
  /-- `DEC L`, 0x2D (R261). -/
  | decL
  /-- `CPL`, 0x2F (R264). -/
  | cpl
  /-- `LD (HL-),A`, 0x32 (R219). -/
  | ldMemHlDecA
  /-- `INC SP`, 0x33 (R301). -/
  | incSp
  /-- `INC (HL)`, 0x34 (R260). -/
  | incMemHl
  /-- `DEC (HL)`, 0x35 (R262). -/
  | decMemHl
  /-- `SCF`, 0x37 (R265). -/
  | scf
  /-- `ADD HL,SP`, 0x39 (R300). -/
  | addHlSp
  /-- `LD A,(HL-)`, 0x3A (R217). -/
  | ldAMemHlDec
  /-- `DEC SP`, 0x3B (R302). -/
  | decSp
  /-- `INC A`, 0x3C (R259). -/
  | incA
  /-- `DEC A`, 0x3D (R261). -/
  | decA
  /-- `CCF`, 0x3F (R266). -/
  | ccf
  /-- `LD B,B`, 0x40 (R201). -/
  | ldBB
  /-- `LD B,C`, 0x41 (R201). -/
  | ldBC
  /-- `LD B,D`, 0x42 (R201). -/
  | ldBD
  /-- `LD B,E`, 0x43 (R201). -/
  | ldBE
  /-- `LD B,H`, 0x44 (R201). -/
  | ldBH
  /-- `LD B,L`, 0x45 (R201). -/
  | ldBL
  /-- `LD B,(HL)`, 0x46 (R202). -/
  | ldBMemHl
  /-- `LD B,A`, 0x47 (R201). -/
  | ldBA
  /-- `LD C,B`, 0x48 (R201). -/
  | ldCB
  /-- `LD C,C`, 0x49 (R201). -/
  | ldCC
  /-- `LD C,D`, 0x4A (R201). -/
  | ldCD
  /-- `LD C,E`, 0x4B (R201). -/
  | ldCE
  /-- `LD C,H`, 0x4C (R201). -/
  | ldCH
  /-- `LD C,L`, 0x4D (R201). -/
  | ldCL
  /-- `LD C,(HL)`, 0x4E (R202). -/
  | ldCMemHl
  /-- `LD C,A`, 0x4F (R201). -/
  | ldCA
  /-- `LD D,B`, 0x50 (R201). -/
  | ldDB
  /-- `LD D,C`, 0x51 (R201). -/
  | ldDC
  /-- `LD D,D`, 0x52 (R201). -/
  | ldDD
  /-- `LD D,E`, 0x53 (R201). -/
  | ldDE
  /-- `LD D,H`, 0x54 (R201). -/
  | ldDH
  /-- `LD D,L`, 0x55 (R201). -/
  | ldDL
  /-- `LD D,(HL)`, 0x56 (R202). -/
  | ldDMemHl
  /-- `LD D,A`, 0x57 (R201). -/
  | ldDA
  /-- `LD E,B`, 0x58 (R201). -/
  | ldEB
  /-- `LD E,C`, 0x59 (R201). -/
  | ldEC
  /-- `LD E,D`, 0x5A (R201). -/
  | ldED
  /-- `LD E,E`, 0x5B (R201). -/
  | ldEE
  /-- `LD E,H`, 0x5C (R201). -/
  | ldEH
  /-- `LD E,L`, 0x5D (R201). -/
  | ldEL
  /-- `LD E,(HL)`, 0x5E (R202). -/
  | ldEMemHl
  /-- `LD E,A`, 0x5F (R201). -/
  | ldEA
  /-- `LD H,B`, 0x60 (R201). -/
  | ldHB
  /-- `LD H,C`, 0x61 (R201). -/
  | ldHC
  /-- `LD H,D`, 0x62 (R201). -/
  | ldHD
  /-- `LD H,E`, 0x63 (R201). -/
  | ldHE
  /-- `LD H,H`, 0x64 (R201). -/
  | ldHH
  /-- `LD H,L`, 0x65 (R201). -/
  | ldHL
  /-- `LD H,(HL)`, 0x66 (R202). -/
  | ldHMemHl
  /-- `LD H,A`, 0x67 (R201). -/
  | ldHA
  /-- `LD L,B`, 0x68 (R201). -/
  | ldLB
  /-- `LD L,C`, 0x69 (R201). -/
  | ldLC
  /-- `LD L,D`, 0x6A (R201). -/
  | ldLD
  /-- `LD L,E`, 0x6B (R201). -/
  | ldLE
  /-- `LD L,H`, 0x6C (R201). -/
  | ldLH
  /-- `LD L,L`, 0x6D (R201). -/
  | ldLL
  /-- `LD L,(HL)`, 0x6E (R202). -/
  | ldLMemHl
  /-- `LD L,A`, 0x6F (R201). -/
  | ldLA
  /-- `LD (HL),B`, 0x70 (R203). -/
  | ldMemHlB
  /-- `LD (HL),C`, 0x71 (R203). -/
  | ldMemHlC
  /-- `LD (HL),D`, 0x72 (R203). -/
  | ldMemHlD
  /-- `LD (HL),E`, 0x73 (R203). -/
  | ldMemHlE
  /-- `LD (HL),H`, 0x74 (R203). -/
  | ldMemHlH
  /-- `LD (HL),L`, 0x75 (R203). -/
  | ldMemHlL
  /-- `HALT`, 0x76 (R351). -/
  | halt
  /-- `LD (HL),A`, 0x77 (R203). -/
  | ldMemHlA
  /-- `LD A,B`, 0x78 (R201). -/
  | ldAB
  /-- `LD A,C`, 0x79 (R201). -/
  | ldAC
  /-- `LD A,D`, 0x7A (R201). -/
  | ldAD
  /-- `LD A,E`, 0x7B (R201). -/
  | ldAE
  /-- `LD A,H`, 0x7C (R201). -/
  | ldAH
  /-- `LD A,L`, 0x7D (R201). -/
  | ldAL
  /-- `LD A,(HL)`, 0x7E (R202). -/
  | ldAMemHl
  /-- `LD A,A`, 0x7F (R201). -/
  | ldAA
  /-- `ADD A,B`, 0x80 (R251). -/
  | addAB
  /-- `ADD A,C`, 0x81 (R251). -/
  | addAC
  /-- `ADD A,D`, 0x82 (R251). -/
  | addAD
  /-- `ADD A,E`, 0x83 (R251). -/
  | addAE
  /-- `ADD A,H`, 0x84 (R251). -/
  | addAH
  /-- `ADD A,L`, 0x85 (R251). -/
  | addAL
  /-- `ADD A,(HL)`, 0x86 (R251). -/
  | addAMemHl
  /-- `ADD A,A`, 0x87 (R251). -/
  | addAA
  /-- `ADC A,B`, 0x88 (R252). -/
  | adcAB
  /-- `ADC A,C`, 0x89 (R252). -/
  | adcAC
  /-- `ADC A,D`, 0x8A (R252). -/
  | adcAD
  /-- `ADC A,E`, 0x8B (R252). -/
  | adcAE
  /-- `ADC A,H`, 0x8C (R252). -/
  | adcAH
  /-- `ADC A,L`, 0x8D (R252). -/
  | adcAL
  /-- `ADC A,(HL)`, 0x8E (R252). -/
  | adcAMemHl
  /-- `ADC A,A`, 0x8F (R252). -/
  | adcAA
  /-- `SUB B`, 0x90 (R253). -/
  | subB
  /-- `SUB C`, 0x91 (R253). -/
  | subC
  /-- `SUB D`, 0x92 (R253). -/
  | subD
  /-- `SUB E`, 0x93 (R253). -/
  | subE
  /-- `SUB H`, 0x94 (R253). -/
  | subH
  /-- `SUB L`, 0x95 (R253). -/
  | subL
  /-- `SUB (HL)`, 0x96 (R253). -/
  | subMemHl
  /-- `SUB A`, 0x97 (R253). -/
  | subA
  /-- `SBC A,B`, 0x98 (R254). -/
  | sbcAB
  /-- `SBC A,C`, 0x99 (R254). -/
  | sbcAC
  /-- `SBC A,D`, 0x9A (R254). -/
  | sbcAD
  /-- `SBC A,E`, 0x9B (R254). -/
  | sbcAE
  /-- `SBC A,H`, 0x9C (R254). -/
  | sbcAH
  /-- `SBC A,L`, 0x9D (R254). -/
  | sbcAL
  /-- `SBC A,(HL)`, 0x9E (R254). -/
  | sbcAMemHl
  /-- `SBC A,A`, 0x9F (R254). -/
  | sbcAA
  /-- `AND B`, 0xA0 (R255). -/
  | andB
  /-- `AND C`, 0xA1 (R255). -/
  | andC
  /-- `AND D`, 0xA2 (R255). -/
  | andD
  /-- `AND E`, 0xA3 (R255). -/
  | andE
  /-- `AND H`, 0xA4 (R255). -/
  | andH
  /-- `AND L`, 0xA5 (R255). -/
  | andL
  /-- `AND (HL)`, 0xA6 (R255). -/
  | andMemHl
  /-- `AND A`, 0xA7 (R255). -/
  | andA
  /-- `XOR B`, 0xA8 (R256). -/
  | xorB
  /-- `XOR C`, 0xA9 (R256). -/
  | xorC
  /-- `XOR D`, 0xAA (R256). -/
  | xorD
  /-- `XOR E`, 0xAB (R256). -/
  | xorE
  /-- `XOR H`, 0xAC (R256). -/
  | xorH
  /-- `XOR L`, 0xAD (R256). -/
  | xorL
  /-- `XOR (HL)`, 0xAE (R256). -/
  | xorMemHl
  /-- `XOR A`, 0xAF (R256). -/
  | xorA
  /-- `OR B`, 0xB0 (R257). -/
  | orB
  /-- `OR C`, 0xB1 (R257). -/
  | orC
  /-- `OR D`, 0xB2 (R257). -/
  | orD
  /-- `OR E`, 0xB3 (R257). -/
  | orE
  /-- `OR H`, 0xB4 (R257). -/
  | orH
  /-- `OR L`, 0xB5 (R257). -/
  | orL
  /-- `OR (HL)`, 0xB6 (R257). -/
  | orMemHl
  /-- `OR A`, 0xB7 (R257). -/
  | orA
  /-- `CP B`, 0xB8 (R258). -/
  | cpB
  /-- `CP C`, 0xB9 (R258). -/
  | cpC
  /-- `CP D`, 0xBA (R258). -/
  | cpD
  /-- `CP E`, 0xBB (R258). -/
  | cpE
  /-- `CP H`, 0xBC (R258). -/
  | cpH
  /-- `CP L`, 0xBD (R258). -/
  | cpL
  /-- `CP (HL)`, 0xBE (R258). -/
  | cpMemHl
  /-- `CP A`, 0xBF (R258). -/
  | cpA
  /-- `RET NZ`, 0xC0 (R329). -/
  | retNz
  /-- `POP BC`, 0xC1 (R224). -/
  | popBc
  /-- `PUSH BC`, 0xC5 (R223). -/
  | pushBc
  /-- `RST 00H`, 0xC7 (R331). -/
  | rst00
  /-- `RET Z`, 0xC8 (R329). -/
  | retZ
  /-- `RET`, 0xC9 (R328). -/
  | ret
  /-- `RST 08H`, 0xCF (R331). -/
  | rst08
  /-- `RET NC`, 0xD0 (R329). -/
  | retNc
  /-- `POP DE`, 0xD1 (R224). -/
  | popDe
  /-- `ILLEGAL_D3`, 0xD3 (R356). -/
  | illegalD3
  /-- `PUSH DE`, 0xD5 (R223). -/
  | pushDe
  /-- `RST 10H`, 0xD7 (R331). -/
  | rst10
  /-- `RET C`, 0xD8 (R329). -/
  | retC
  /-- `RETI`, 0xD9 (R330). -/
  | reti
  /-- `ILLEGAL_DB`, 0xDB (R356). -/
  | illegalDB
  /-- `ILLEGAL_DD`, 0xDD (R356). -/
  | illegalDD
  /-- `RST 18H`, 0xDF (R331). -/
  | rst18
  /-- `POP HL`, 0xE1 (R224). -/
  | popHl
  /-- `LD (C),A`, 0xE2 (R215). -/
  | ldMemCA
  /-- `ILLEGAL_E3`, 0xE3 (R356). -/
  | illegalE3
  /-- `ILLEGAL_E4`, 0xE4 (R356). -/
  | illegalE4
  /-- `PUSH HL`, 0xE5 (R223). -/
  | pushHl
  /-- `RST 20H`, 0xE7 (R331). -/
  | rst20
  /-- `JP HL`, 0xE9 (R323). -/
  | jpHl
  /-- `ILLEGAL_EB`, 0xEB (R356). -/
  | illegalEB
  /-- `ILLEGAL_EC`, 0xEC (R356). -/
  | illegalEC
  /-- `ILLEGAL_ED`, 0xED (R356). -/
  | illegalED
  /-- `RST 28H`, 0xEF (R331). -/
  | rst28
  /-- `POP AF`, 0xF1 (R225). -/
  | popAf
  /-- `LD A,(C)`, 0xF2 (R214). -/
  | ldAMemC
  /-- `DI`, 0xF3 (R353). -/
  | di
  /-- `ILLEGAL_F4`, 0xF4 (R356). -/
  | illegalF4
  /-- `PUSH AF`, 0xF5 (R223). -/
  | pushAf
  /-- `RST 30H`, 0xF7 (R331). -/
  | rst30
  /-- `LD SP,HL`, 0xF9 (R222). -/
  | ldSpHl
  /-- `EI`, 0xFB (R354). -/
  | ei
  /-- `ILLEGAL_FC`, 0xFC (R356). -/
  | illegalFC
  /-- `ILLEGAL_FD`, 0xFD (R356). -/
  | illegalFD
  /-- `RST 38H`, 0xFF (R331). -/
  | rst38
  /-- `RLC B`, 0xCB 0x00 (R371). -/
  | rlcB
  /-- `RLC C`, 0xCB 0x01 (R371). -/
  | rlcC
  /-- `RLC D`, 0xCB 0x02 (R371). -/
  | rlcD
  /-- `RLC E`, 0xCB 0x03 (R371). -/
  | rlcE
  /-- `RLC H`, 0xCB 0x04 (R371). -/
  | rlcH
  /-- `RLC L`, 0xCB 0x05 (R371). -/
  | rlcL
  /-- `RLC (HL)`, 0xCB 0x06 (R371). -/
  | rlcMemHl
  /-- `RLC A`, 0xCB 0x07 (R371). -/
  | rlcA
  /-- `RRC B`, 0xCB 0x08 (R372). -/
  | rrcB
  /-- `RRC C`, 0xCB 0x09 (R372). -/
  | rrcC
  /-- `RRC D`, 0xCB 0x0A (R372). -/
  | rrcD
  /-- `RRC E`, 0xCB 0x0B (R372). -/
  | rrcE
  /-- `RRC H`, 0xCB 0x0C (R372). -/
  | rrcH
  /-- `RRC L`, 0xCB 0x0D (R372). -/
  | rrcL
  /-- `RRC (HL)`, 0xCB 0x0E (R372). -/
  | rrcMemHl
  /-- `RRC A`, 0xCB 0x0F (R372). -/
  | rrcA
  /-- `RL B`, 0xCB 0x10 (R373). -/
  | rlB
  /-- `RL C`, 0xCB 0x11 (R373). -/
  | rlC
  /-- `RL D`, 0xCB 0x12 (R373). -/
  | rlD
  /-- `RL E`, 0xCB 0x13 (R373). -/
  | rlE
  /-- `RL H`, 0xCB 0x14 (R373). -/
  | rlH
  /-- `RL L`, 0xCB 0x15 (R373). -/
  | rlL
  /-- `RL (HL)`, 0xCB 0x16 (R373). -/
  | rlMemHl
  /-- `RL A`, 0xCB 0x17 (R373). -/
  | rlA
  /-- `RR B`, 0xCB 0x18 (R374). -/
  | rrB
  /-- `RR C`, 0xCB 0x19 (R374). -/
  | rrC
  /-- `RR D`, 0xCB 0x1A (R374). -/
  | rrD
  /-- `RR E`, 0xCB 0x1B (R374). -/
  | rrE
  /-- `RR H`, 0xCB 0x1C (R374). -/
  | rrH
  /-- `RR L`, 0xCB 0x1D (R374). -/
  | rrL
  /-- `RR (HL)`, 0xCB 0x1E (R374). -/
  | rrMemHl
  /-- `RR A`, 0xCB 0x1F (R374). -/
  | rrA
  /-- `SLA B`, 0xCB 0x20 (R375). -/
  | slaB
  /-- `SLA C`, 0xCB 0x21 (R375). -/
  | slaC
  /-- `SLA D`, 0xCB 0x22 (R375). -/
  | slaD
  /-- `SLA E`, 0xCB 0x23 (R375). -/
  | slaE
  /-- `SLA H`, 0xCB 0x24 (R375). -/
  | slaH
  /-- `SLA L`, 0xCB 0x25 (R375). -/
  | slaL
  /-- `SLA (HL)`, 0xCB 0x26 (R375). -/
  | slaMemHl
  /-- `SLA A`, 0xCB 0x27 (R375). -/
  | slaA
  /-- `SRA B`, 0xCB 0x28 (R376). -/
  | sraB
  /-- `SRA C`, 0xCB 0x29 (R376). -/
  | sraC
  /-- `SRA D`, 0xCB 0x2A (R376). -/
  | sraD
  /-- `SRA E`, 0xCB 0x2B (R376). -/
  | sraE
  /-- `SRA H`, 0xCB 0x2C (R376). -/
  | sraH
  /-- `SRA L`, 0xCB 0x2D (R376). -/
  | sraL
  /-- `SRA (HL)`, 0xCB 0x2E (R376). -/
  | sraMemHl
  /-- `SRA A`, 0xCB 0x2F (R376). -/
  | sraA
  /-- `SWAP B`, 0xCB 0x30 (R377). -/
  | swapB
  /-- `SWAP C`, 0xCB 0x31 (R377). -/
  | swapC
  /-- `SWAP D`, 0xCB 0x32 (R377). -/
  | swapD
  /-- `SWAP E`, 0xCB 0x33 (R377). -/
  | swapE
  /-- `SWAP H`, 0xCB 0x34 (R377). -/
  | swapH
  /-- `SWAP L`, 0xCB 0x35 (R377). -/
  | swapL
  /-- `SWAP (HL)`, 0xCB 0x36 (R377). -/
  | swapMemHl
  /-- `SWAP A`, 0xCB 0x37 (R377). -/
  | swapA
  /-- `SRL B`, 0xCB 0x38 (R378). -/
  | srlB
  /-- `SRL C`, 0xCB 0x39 (R378). -/
  | srlC
  /-- `SRL D`, 0xCB 0x3A (R378). -/
  | srlD
  /-- `SRL E`, 0xCB 0x3B (R378). -/
  | srlE
  /-- `SRL H`, 0xCB 0x3C (R378). -/
  | srlH
  /-- `SRL L`, 0xCB 0x3D (R378). -/
  | srlL
  /-- `SRL (HL)`, 0xCB 0x3E (R378). -/
  | srlMemHl
  /-- `SRL A`, 0xCB 0x3F (R378). -/
  | srlA
  /-- `BIT 0,B`, 0xCB 0x40 (R379). -/
  | bit0B
  /-- `BIT 0,C`, 0xCB 0x41 (R379). -/
  | bit0C
  /-- `BIT 0,D`, 0xCB 0x42 (R379). -/
  | bit0D
  /-- `BIT 0,E`, 0xCB 0x43 (R379). -/
  | bit0E
  /-- `BIT 0,H`, 0xCB 0x44 (R379). -/
  | bit0H
  /-- `BIT 0,L`, 0xCB 0x45 (R379). -/
  | bit0L
  /-- `BIT 0,(HL)`, 0xCB 0x46 (R379). -/
  | bit0MemHl
  /-- `BIT 0,A`, 0xCB 0x47 (R379). -/
  | bit0A
  /-- `BIT 1,B`, 0xCB 0x48 (R379). -/
  | bit1B
  /-- `BIT 1,C`, 0xCB 0x49 (R379). -/
  | bit1C
  /-- `BIT 1,D`, 0xCB 0x4A (R379). -/
  | bit1D
  /-- `BIT 1,E`, 0xCB 0x4B (R379). -/
  | bit1E
  /-- `BIT 1,H`, 0xCB 0x4C (R379). -/
  | bit1H
  /-- `BIT 1,L`, 0xCB 0x4D (R379). -/
  | bit1L
  /-- `BIT 1,(HL)`, 0xCB 0x4E (R379). -/
  | bit1MemHl
  /-- `BIT 1,A`, 0xCB 0x4F (R379). -/
  | bit1A
  /-- `BIT 2,B`, 0xCB 0x50 (R379). -/
  | bit2B
  /-- `BIT 2,C`, 0xCB 0x51 (R379). -/
  | bit2C
  /-- `BIT 2,D`, 0xCB 0x52 (R379). -/
  | bit2D
  /-- `BIT 2,E`, 0xCB 0x53 (R379). -/
  | bit2E
  /-- `BIT 2,H`, 0xCB 0x54 (R379). -/
  | bit2H
  /-- `BIT 2,L`, 0xCB 0x55 (R379). -/
  | bit2L
  /-- `BIT 2,(HL)`, 0xCB 0x56 (R379). -/
  | bit2MemHl
  /-- `BIT 2,A`, 0xCB 0x57 (R379). -/
  | bit2A
  /-- `BIT 3,B`, 0xCB 0x58 (R379). -/
  | bit3B
  /-- `BIT 3,C`, 0xCB 0x59 (R379). -/
  | bit3C
  /-- `BIT 3,D`, 0xCB 0x5A (R379). -/
  | bit3D
  /-- `BIT 3,E`, 0xCB 0x5B (R379). -/
  | bit3E
  /-- `BIT 3,H`, 0xCB 0x5C (R379). -/
  | bit3H
  /-- `BIT 3,L`, 0xCB 0x5D (R379). -/
  | bit3L
  /-- `BIT 3,(HL)`, 0xCB 0x5E (R379). -/
  | bit3MemHl
  /-- `BIT 3,A`, 0xCB 0x5F (R379). -/
  | bit3A
  /-- `BIT 4,B`, 0xCB 0x60 (R379). -/
  | bit4B
  /-- `BIT 4,C`, 0xCB 0x61 (R379). -/
  | bit4C
  /-- `BIT 4,D`, 0xCB 0x62 (R379). -/
  | bit4D
  /-- `BIT 4,E`, 0xCB 0x63 (R379). -/
  | bit4E
  /-- `BIT 4,H`, 0xCB 0x64 (R379). -/
  | bit4H
  /-- `BIT 4,L`, 0xCB 0x65 (R379). -/
  | bit4L
  /-- `BIT 4,(HL)`, 0xCB 0x66 (R379). -/
  | bit4MemHl
  /-- `BIT 4,A`, 0xCB 0x67 (R379). -/
  | bit4A
  /-- `BIT 5,B`, 0xCB 0x68 (R379). -/
  | bit5B
  /-- `BIT 5,C`, 0xCB 0x69 (R379). -/
  | bit5C
  /-- `BIT 5,D`, 0xCB 0x6A (R379). -/
  | bit5D
  /-- `BIT 5,E`, 0xCB 0x6B (R379). -/
  | bit5E
  /-- `BIT 5,H`, 0xCB 0x6C (R379). -/
  | bit5H
  /-- `BIT 5,L`, 0xCB 0x6D (R379). -/
  | bit5L
  /-- `BIT 5,(HL)`, 0xCB 0x6E (R379). -/
  | bit5MemHl
  /-- `BIT 5,A`, 0xCB 0x6F (R379). -/
  | bit5A
  /-- `BIT 6,B`, 0xCB 0x70 (R379). -/
  | bit6B
  /-- `BIT 6,C`, 0xCB 0x71 (R379). -/
  | bit6C
  /-- `BIT 6,D`, 0xCB 0x72 (R379). -/
  | bit6D
  /-- `BIT 6,E`, 0xCB 0x73 (R379). -/
  | bit6E
  /-- `BIT 6,H`, 0xCB 0x74 (R379). -/
  | bit6H
  /-- `BIT 6,L`, 0xCB 0x75 (R379). -/
  | bit6L
  /-- `BIT 6,(HL)`, 0xCB 0x76 (R379). -/
  | bit6MemHl
  /-- `BIT 6,A`, 0xCB 0x77 (R379). -/
  | bit6A
  /-- `BIT 7,B`, 0xCB 0x78 (R379). -/
  | bit7B
  /-- `BIT 7,C`, 0xCB 0x79 (R379). -/
  | bit7C
  /-- `BIT 7,D`, 0xCB 0x7A (R379). -/
  | bit7D
  /-- `BIT 7,E`, 0xCB 0x7B (R379). -/
  | bit7E
  /-- `BIT 7,H`, 0xCB 0x7C (R379). -/
  | bit7H
  /-- `BIT 7,L`, 0xCB 0x7D (R379). -/
  | bit7L
  /-- `BIT 7,(HL)`, 0xCB 0x7E (R379). -/
  | bit7MemHl
  /-- `BIT 7,A`, 0xCB 0x7F (R379). -/
  | bit7A
  /-- `RES 0,B`, 0xCB 0x80 (R380). -/
  | res0B
  /-- `RES 0,C`, 0xCB 0x81 (R380). -/
  | res0C
  /-- `RES 0,D`, 0xCB 0x82 (R380). -/
  | res0D
  /-- `RES 0,E`, 0xCB 0x83 (R380). -/
  | res0E
  /-- `RES 0,H`, 0xCB 0x84 (R380). -/
  | res0H
  /-- `RES 0,L`, 0xCB 0x85 (R380). -/
  | res0L
  /-- `RES 0,(HL)`, 0xCB 0x86 (R380). -/
  | res0MemHl
  /-- `RES 0,A`, 0xCB 0x87 (R380). -/
  | res0A
  /-- `RES 1,B`, 0xCB 0x88 (R380). -/
  | res1B
  /-- `RES 1,C`, 0xCB 0x89 (R380). -/
  | res1C
  /-- `RES 1,D`, 0xCB 0x8A (R380). -/
  | res1D
  /-- `RES 1,E`, 0xCB 0x8B (R380). -/
  | res1E
  /-- `RES 1,H`, 0xCB 0x8C (R380). -/
  | res1H
  /-- `RES 1,L`, 0xCB 0x8D (R380). -/
  | res1L
  /-- `RES 1,(HL)`, 0xCB 0x8E (R380). -/
  | res1MemHl
  /-- `RES 1,A`, 0xCB 0x8F (R380). -/
  | res1A
  /-- `RES 2,B`, 0xCB 0x90 (R380). -/
  | res2B
  /-- `RES 2,C`, 0xCB 0x91 (R380). -/
  | res2C
  /-- `RES 2,D`, 0xCB 0x92 (R380). -/
  | res2D
  /-- `RES 2,E`, 0xCB 0x93 (R380). -/
  | res2E
  /-- `RES 2,H`, 0xCB 0x94 (R380). -/
  | res2H
  /-- `RES 2,L`, 0xCB 0x95 (R380). -/
  | res2L
  /-- `RES 2,(HL)`, 0xCB 0x96 (R380). -/
  | res2MemHl
  /-- `RES 2,A`, 0xCB 0x97 (R380). -/
  | res2A
  /-- `RES 3,B`, 0xCB 0x98 (R380). -/
  | res3B
  /-- `RES 3,C`, 0xCB 0x99 (R380). -/
  | res3C
  /-- `RES 3,D`, 0xCB 0x9A (R380). -/
  | res3D
  /-- `RES 3,E`, 0xCB 0x9B (R380). -/
  | res3E
  /-- `RES 3,H`, 0xCB 0x9C (R380). -/
  | res3H
  /-- `RES 3,L`, 0xCB 0x9D (R380). -/
  | res3L
  /-- `RES 3,(HL)`, 0xCB 0x9E (R380). -/
  | res3MemHl
  /-- `RES 3,A`, 0xCB 0x9F (R380). -/
  | res3A
  /-- `RES 4,B`, 0xCB 0xA0 (R380). -/
  | res4B
  /-- `RES 4,C`, 0xCB 0xA1 (R380). -/
  | res4C
  /-- `RES 4,D`, 0xCB 0xA2 (R380). -/
  | res4D
  /-- `RES 4,E`, 0xCB 0xA3 (R380). -/
  | res4E
  /-- `RES 4,H`, 0xCB 0xA4 (R380). -/
  | res4H
  /-- `RES 4,L`, 0xCB 0xA5 (R380). -/
  | res4L
  /-- `RES 4,(HL)`, 0xCB 0xA6 (R380). -/
  | res4MemHl
  /-- `RES 4,A`, 0xCB 0xA7 (R380). -/
  | res4A
  /-- `RES 5,B`, 0xCB 0xA8 (R380). -/
  | res5B
  /-- `RES 5,C`, 0xCB 0xA9 (R380). -/
  | res5C
  /-- `RES 5,D`, 0xCB 0xAA (R380). -/
  | res5D
  /-- `RES 5,E`, 0xCB 0xAB (R380). -/
  | res5E
  /-- `RES 5,H`, 0xCB 0xAC (R380). -/
  | res5H
  /-- `RES 5,L`, 0xCB 0xAD (R380). -/
  | res5L
  /-- `RES 5,(HL)`, 0xCB 0xAE (R380). -/
  | res5MemHl
  /-- `RES 5,A`, 0xCB 0xAF (R380). -/
  | res5A
  /-- `RES 6,B`, 0xCB 0xB0 (R380). -/
  | res6B
  /-- `RES 6,C`, 0xCB 0xB1 (R380). -/
  | res6C
  /-- `RES 6,D`, 0xCB 0xB2 (R380). -/
  | res6D
  /-- `RES 6,E`, 0xCB 0xB3 (R380). -/
  | res6E
  /-- `RES 6,H`, 0xCB 0xB4 (R380). -/
  | res6H
  /-- `RES 6,L`, 0xCB 0xB5 (R380). -/
  | res6L
  /-- `RES 6,(HL)`, 0xCB 0xB6 (R380). -/
  | res6MemHl
  /-- `RES 6,A`, 0xCB 0xB7 (R380). -/
  | res6A
  /-- `RES 7,B`, 0xCB 0xB8 (R380). -/
  | res7B
  /-- `RES 7,C`, 0xCB 0xB9 (R380). -/
  | res7C
  /-- `RES 7,D`, 0xCB 0xBA (R380). -/
  | res7D
  /-- `RES 7,E`, 0xCB 0xBB (R380). -/
  | res7E
  /-- `RES 7,H`, 0xCB 0xBC (R380). -/
  | res7H
  /-- `RES 7,L`, 0xCB 0xBD (R380). -/
  | res7L
  /-- `RES 7,(HL)`, 0xCB 0xBE (R380). -/
  | res7MemHl
  /-- `RES 7,A`, 0xCB 0xBF (R380). -/
  | res7A
  /-- `SET 0,B`, 0xCB 0xC0 (R381). -/
  | set0B
  /-- `SET 0,C`, 0xCB 0xC1 (R381). -/
  | set0C
  /-- `SET 0,D`, 0xCB 0xC2 (R381). -/
  | set0D
  /-- `SET 0,E`, 0xCB 0xC3 (R381). -/
  | set0E
  /-- `SET 0,H`, 0xCB 0xC4 (R381). -/
  | set0H
  /-- `SET 0,L`, 0xCB 0xC5 (R381). -/
  | set0L
  /-- `SET 0,(HL)`, 0xCB 0xC6 (R381). -/
  | set0MemHl
  /-- `SET 0,A`, 0xCB 0xC7 (R381). -/
  | set0A
  /-- `SET 1,B`, 0xCB 0xC8 (R381). -/
  | set1B
  /-- `SET 1,C`, 0xCB 0xC9 (R381). -/
  | set1C
  /-- `SET 1,D`, 0xCB 0xCA (R381). -/
  | set1D
  /-- `SET 1,E`, 0xCB 0xCB (R381). -/
  | set1E
  /-- `SET 1,H`, 0xCB 0xCC (R381). -/
  | set1H
  /-- `SET 1,L`, 0xCB 0xCD (R381). -/
  | set1L
  /-- `SET 1,(HL)`, 0xCB 0xCE (R381). -/
  | set1MemHl
  /-- `SET 1,A`, 0xCB 0xCF (R381). -/
  | set1A
  /-- `SET 2,B`, 0xCB 0xD0 (R381). -/
  | set2B
  /-- `SET 2,C`, 0xCB 0xD1 (R381). -/
  | set2C
  /-- `SET 2,D`, 0xCB 0xD2 (R381). -/
  | set2D
  /-- `SET 2,E`, 0xCB 0xD3 (R381). -/
  | set2E
  /-- `SET 2,H`, 0xCB 0xD4 (R381). -/
  | set2H
  /-- `SET 2,L`, 0xCB 0xD5 (R381). -/
  | set2L
  /-- `SET 2,(HL)`, 0xCB 0xD6 (R381). -/
  | set2MemHl
  /-- `SET 2,A`, 0xCB 0xD7 (R381). -/
  | set2A
  /-- `SET 3,B`, 0xCB 0xD8 (R381). -/
  | set3B
  /-- `SET 3,C`, 0xCB 0xD9 (R381). -/
  | set3C
  /-- `SET 3,D`, 0xCB 0xDA (R381). -/
  | set3D
  /-- `SET 3,E`, 0xCB 0xDB (R381). -/
  | set3E
  /-- `SET 3,H`, 0xCB 0xDC (R381). -/
  | set3H
  /-- `SET 3,L`, 0xCB 0xDD (R381). -/
  | set3L
  /-- `SET 3,(HL)`, 0xCB 0xDE (R381). -/
  | set3MemHl
  /-- `SET 3,A`, 0xCB 0xDF (R381). -/
  | set3A
  /-- `SET 4,B`, 0xCB 0xE0 (R381). -/
  | set4B
  /-- `SET 4,C`, 0xCB 0xE1 (R381). -/
  | set4C
  /-- `SET 4,D`, 0xCB 0xE2 (R381). -/
  | set4D
  /-- `SET 4,E`, 0xCB 0xE3 (R381). -/
  | set4E
  /-- `SET 4,H`, 0xCB 0xE4 (R381). -/
  | set4H
  /-- `SET 4,L`, 0xCB 0xE5 (R381). -/
  | set4L
  /-- `SET 4,(HL)`, 0xCB 0xE6 (R381). -/
  | set4MemHl
  /-- `SET 4,A`, 0xCB 0xE7 (R381). -/
  | set4A
  /-- `SET 5,B`, 0xCB 0xE8 (R381). -/
  | set5B
  /-- `SET 5,C`, 0xCB 0xE9 (R381). -/
  | set5C
  /-- `SET 5,D`, 0xCB 0xEA (R381). -/
  | set5D
  /-- `SET 5,E`, 0xCB 0xEB (R381). -/
  | set5E
  /-- `SET 5,H`, 0xCB 0xEC (R381). -/
  | set5H
  /-- `SET 5,L`, 0xCB 0xED (R381). -/
  | set5L
  /-- `SET 5,(HL)`, 0xCB 0xEE (R381). -/
  | set5MemHl
  /-- `SET 5,A`, 0xCB 0xEF (R381). -/
  | set5A
  /-- `SET 6,B`, 0xCB 0xF0 (R381). -/
  | set6B
  /-- `SET 6,C`, 0xCB 0xF1 (R381). -/
  | set6C
  /-- `SET 6,D`, 0xCB 0xF2 (R381). -/
  | set6D
  /-- `SET 6,E`, 0xCB 0xF3 (R381). -/
  | set6E
  /-- `SET 6,H`, 0xCB 0xF4 (R381). -/
  | set6H
  /-- `SET 6,L`, 0xCB 0xF5 (R381). -/
  | set6L
  /-- `SET 6,(HL)`, 0xCB 0xF6 (R381). -/
  | set6MemHl
  /-- `SET 6,A`, 0xCB 0xF7 (R381). -/
  | set6A
  /-- `SET 7,B`, 0xCB 0xF8 (R381). -/
  | set7B
  /-- `SET 7,C`, 0xCB 0xF9 (R381). -/
  | set7C
  /-- `SET 7,D`, 0xCB 0xFA (R381). -/
  | set7D
  /-- `SET 7,E`, 0xCB 0xFB (R381). -/
  | set7E
  /-- `SET 7,H`, 0xCB 0xFC (R381). -/
  | set7H
  /-- `SET 7,L`, 0xCB 0xFD (R381). -/
  | set7L
  /-- `SET 7,(HL)`, 0xCB 0xFE (R381). -/
  | set7MemHl
  /-- `SET 7,A`, 0xCB 0xFF (R381). -/
  | set7A
deriving DecidableEq, Repr

end Sys2Proof
end

