-- ==== Sys2Proof/WellFormed.lean ====
section
/-! DEFINITION. Which instructions are whole decoded instructions (44_system.md R355). -/

namespace Sys2Proof

/-- Every value of an immediate operand is allowed and no legal encoding has a reserved field (30_encoding.md R152), so the
one check is about `PREFIX CB`: its two bytes decode to the secondary instruction's own constructor (R151, R355), and
`prefixCb` itself is no decoded instruction (log entry 8). -/
def Instr.wellFormed : Instr → Bool
  | .prefixCb _ => false
  | _ => true

end Sys2Proof
end

