-- ==== Sys2Proof/Decode.lean ====
section
/-! DEFINITION. Decoding and encoding (30_encoding.md R140 to R158): the two opcode maps as tables in the rows of R149 and
R151, the lengths of R153, a decoder that is total on byte lists, and an encoder. -/

namespace Sys2Proof

/-- `hi:lo`, that is `(hi << 8) | lo` (R7): the low byte comes first in the stream (20_memory.md R84). -/
def wordOf (lo hi : Byte) : Word := (hi.setWidth 16 <<< 8) ||| lo.setWidth 16

/-- `v[7:0]` of a word (R7). -/
def lowByte (v : Word) : Byte := v.extractLsb' 0 8

/-- `v[15:8]` of a word (R7). -/
def highByte (v : Word) : Byte := v.extractLsb' 8 8

/-- `sext_8` (R7, R142), as a word to be added modulo 2^16. -/
def sext8 (v : Byte) : Word := v.signExtend 16

/-- The field `x = op[7:6]` of an opcode (R143, R151). -/
def fieldX (op : Byte) : Nat := op.toNat / 64

/-- The field `y = op[5:3]` (R143, R151). -/
def fieldY (op : Byte) : Nat := op.toNat / 8 % 8

/-- The field `z = op[2:0]` (R143, R151). -/
def fieldZ (op : Byte) : Nat := op.toNat % 8

/-! ### The secondary map (R151) -/

/-- Row 0_ of the secondary map (R151). -/
def secondaryRow0 : List Instr :=
  [.rlcB, .rlcC, .rlcD, .rlcE, .rlcH, .rlcL, .rlcMemHl, .rlcA,
   .rrcB, .rrcC, .rrcD, .rrcE, .rrcH, .rrcL, .rrcMemHl, .rrcA]

/-- Row 1_ of the secondary map (R151). -/
def secondaryRow1 : List Instr :=
  [.rlB, .rlC, .rlD, .rlE, .rlH, .rlL, .rlMemHl, .rlA,
   .rrB, .rrC, .rrD, .rrE, .rrH, .rrL, .rrMemHl, .rrA]

/-- Row 2_ of the secondary map (R151). -/
def secondaryRow2 : List Instr :=
  [.slaB, .slaC, .slaD, .slaE, .slaH, .slaL, .slaMemHl, .slaA,
   .sraB, .sraC, .sraD, .sraE, .sraH, .sraL, .sraMemHl, .sraA]

/-- Row 3_ of the secondary map (R151). -/
def secondaryRow3 : List Instr :=
  [.swapB, .swapC, .swapD, .swapE, .swapH, .swapL, .swapMemHl, .swapA,
   .srlB, .srlC, .srlD, .srlE, .srlH, .srlL, .srlMemHl, .srlA]

/-- Row 4_ of the secondary map (R151). -/
def secondaryRow4 : List Instr :=
  [.bit0B, .bit0C, .bit0D, .bit0E, .bit0H, .bit0L, .bit0MemHl, .bit0A,
   .bit1B, .bit1C, .bit1D, .bit1E, .bit1H, .bit1L, .bit1MemHl, .bit1A]

/-- Row 5_ of the secondary map (R151). -/
def secondaryRow5 : List Instr :=
  [.bit2B, .bit2C, .bit2D, .bit2E, .bit2H, .bit2L, .bit2MemHl, .bit2A,
   .bit3B, .bit3C, .bit3D, .bit3E, .bit3H, .bit3L, .bit3MemHl, .bit3A]

/-- Row 6_ of the secondary map (R151). -/
def secondaryRow6 : List Instr :=
  [.bit4B, .bit4C, .bit4D, .bit4E, .bit4H, .bit4L, .bit4MemHl, .bit4A,
   .bit5B, .bit5C, .bit5D, .bit5E, .bit5H, .bit5L, .bit5MemHl, .bit5A]

/-- Row 7_ of the secondary map (R151). -/
def secondaryRow7 : List Instr :=
  [.bit6B, .bit6C, .bit6D, .bit6E, .bit6H, .bit6L, .bit6MemHl, .bit6A,
   .bit7B, .bit7C, .bit7D, .bit7E, .bit7H, .bit7L, .bit7MemHl, .bit7A]

/-- Row 8_ of the secondary map (R151). -/
def secondaryRow8 : List Instr :=
  [.res0B, .res0C, .res0D, .res0E, .res0H, .res0L, .res0MemHl, .res0A,
   .res1B, .res1C, .res1D, .res1E, .res1H, .res1L, .res1MemHl, .res1A]

/-- Row 9_ of the secondary map (R151). -/
def secondaryRow9 : List Instr :=
  [.res2B, .res2C, .res2D, .res2E, .res2H, .res2L, .res2MemHl, .res2A,
   .res3B, .res3C, .res3D, .res3E, .res3H, .res3L, .res3MemHl, .res3A]

/-- Row A_ of the secondary map (R151). -/
def secondaryRowA : List Instr :=
  [.res4B, .res4C, .res4D, .res4E, .res4H, .res4L, .res4MemHl, .res4A,
   .res5B, .res5C, .res5D, .res5E, .res5H, .res5L, .res5MemHl, .res5A]

/-- Row B_ of the secondary map (R151). -/
def secondaryRowB : List Instr :=
  [.res6B, .res6C, .res6D, .res6E, .res6H, .res6L, .res6MemHl, .res6A,
   .res7B, .res7C, .res7D, .res7E, .res7H, .res7L, .res7MemHl, .res7A]

/-- Row C_ of the secondary map (R151). -/
def secondaryRowC : List Instr :=
  [.set0B, .set0C, .set0D, .set0E, .set0H, .set0L, .set0MemHl, .set0A,
   .set1B, .set1C, .set1D, .set1E, .set1H, .set1L, .set1MemHl, .set1A]

/-- Row D_ of the secondary map (R151). -/
def secondaryRowD : List Instr :=
  [.set2B, .set2C, .set2D, .set2E, .set2H, .set2L, .set2MemHl, .set2A,
   .set3B, .set3C, .set3D, .set3E, .set3H, .set3L, .set3MemHl, .set3A]

/-- Row E_ of the secondary map (R151). -/
def secondaryRowE : List Instr :=
  [.set4B, .set4C, .set4D, .set4E, .set4H, .set4L, .set4MemHl, .set4A,
   .set5B, .set5C, .set5D, .set5E, .set5H, .set5L, .set5MemHl, .set5A]

/-- Row F_ of the secondary map (R151). -/
def secondaryRowF : List Instr :=
  [.set6B, .set6C, .set6D, .set6E, .set6H, .set6L, .set6MemHl, .set6A,
   .set7B, .set7C, .set7D, .set7E, .set7H, .set7L, .set7MemHl, .set7A]

/-- The secondary opcode map (R151): all 256 entries are defined. -/
def secondaryTable : List Instr :=
  secondaryRow0 ++ secondaryRow1 ++ secondaryRow2 ++ secondaryRow3 ++ secondaryRow4 ++ secondaryRow5 ++ secondaryRow6 ++ secondaryRow7 ++
  secondaryRow8 ++ secondaryRow9 ++ secondaryRowA ++ secondaryRowB ++ secondaryRowC ++ secondaryRowD ++ secondaryRowE ++ secondaryRowF

/-- The secondary instruction that the byte after 0xCB selects (R151, R355). -/
def decodeSecondary (c : Byte) : Instr := secondaryTable.getD c.toNat .nop

/-! ### The primary map (R149) -/

/-- One entry of the primary map: the instruction, from the two bytes after the opcode. -/
abbrev PrimaryEntry := Byte → Byte → Instr

/-- Row 0_ of the primary map (R149). -/
def primaryRow0 : List PrimaryEntry :=
  [fun _ _ => .nop, fun lo hi => .ldBcD16 (wordOf lo hi), fun _ _ => .ldMemBcA, fun _ _ => .incBc,
   fun _ _ => .incB, fun _ _ => .decB, fun n _ => .ldBD8 n, fun _ _ => .rlca,
   fun lo hi => .ldMemA16Sp (wordOf lo hi), fun _ _ => .addHlBc, fun _ _ => .ldAMemBc, fun _ _ => .decBc,
   fun _ _ => .incC, fun _ _ => .decC, fun n _ => .ldCD8 n, fun _ _ => .rrca]

/-- Row 1_ of the primary map (R149). -/
def primaryRow1 : List PrimaryEntry :=
  [fun _ _ => .stop, fun lo hi => .ldDeD16 (wordOf lo hi), fun _ _ => .ldMemDeA, fun _ _ => .incDe,
   fun _ _ => .incD, fun _ _ => .decD, fun n _ => .ldDD8 n, fun _ _ => .rla,
   fun n _ => .jrE8 n, fun _ _ => .addHlDe, fun _ _ => .ldAMemDe, fun _ _ => .decDe,
   fun _ _ => .incE, fun _ _ => .decE, fun n _ => .ldED8 n, fun _ _ => .rra]

/-- Row 2_ of the primary map (R149). -/
def primaryRow2 : List PrimaryEntry :=
  [fun n _ => .jrNzE8 n, fun lo hi => .ldHlD16 (wordOf lo hi), fun _ _ => .ldMemHlIncA, fun _ _ => .incHl,
   fun _ _ => .incH, fun _ _ => .decH, fun n _ => .ldHD8 n, fun _ _ => .daa,
   fun n _ => .jrZE8 n, fun _ _ => .addHlHl, fun _ _ => .ldAMemHlInc, fun _ _ => .decHl,
   fun _ _ => .incL, fun _ _ => .decL, fun n _ => .ldLD8 n, fun _ _ => .cpl]

/-- Row 3_ of the primary map (R149). -/
def primaryRow3 : List PrimaryEntry :=
  [fun n _ => .jrNcE8 n, fun lo hi => .ldSpD16 (wordOf lo hi), fun _ _ => .ldMemHlDecA, fun _ _ => .incSp,
   fun _ _ => .incMemHl, fun _ _ => .decMemHl, fun n _ => .ldMemHlD8 n, fun _ _ => .scf,
   fun n _ => .jrCE8 n, fun _ _ => .addHlSp, fun _ _ => .ldAMemHlDec, fun _ _ => .decSp,
   fun _ _ => .incA, fun _ _ => .decA, fun n _ => .ldAD8 n, fun _ _ => .ccf]

/-- Row 4_ of the primary map (R149). -/
def primaryRow4 : List PrimaryEntry :=
  [fun _ _ => .ldBB, fun _ _ => .ldBC, fun _ _ => .ldBD, fun _ _ => .ldBE,
   fun _ _ => .ldBH, fun _ _ => .ldBL, fun _ _ => .ldBMemHl, fun _ _ => .ldBA,
   fun _ _ => .ldCB, fun _ _ => .ldCC, fun _ _ => .ldCD, fun _ _ => .ldCE,
   fun _ _ => .ldCH, fun _ _ => .ldCL, fun _ _ => .ldCMemHl, fun _ _ => .ldCA]

/-- Row 5_ of the primary map (R149). -/
def primaryRow5 : List PrimaryEntry :=
  [fun _ _ => .ldDB, fun _ _ => .ldDC, fun _ _ => .ldDD, fun _ _ => .ldDE,
   fun _ _ => .ldDH, fun _ _ => .ldDL, fun _ _ => .ldDMemHl, fun _ _ => .ldDA,
   fun _ _ => .ldEB, fun _ _ => .ldEC, fun _ _ => .ldED, fun _ _ => .ldEE,
   fun _ _ => .ldEH, fun _ _ => .ldEL, fun _ _ => .ldEMemHl, fun _ _ => .ldEA]

/-- Row 6_ of the primary map (R149). -/
def primaryRow6 : List PrimaryEntry :=
  [fun _ _ => .ldHB, fun _ _ => .ldHC, fun _ _ => .ldHD, fun _ _ => .ldHE,
   fun _ _ => .ldHH, fun _ _ => .ldHL, fun _ _ => .ldHMemHl, fun _ _ => .ldHA,
   fun _ _ => .ldLB, fun _ _ => .ldLC, fun _ _ => .ldLD, fun _ _ => .ldLE,
   fun _ _ => .ldLH, fun _ _ => .ldLL, fun _ _ => .ldLMemHl, fun _ _ => .ldLA]

/-- Row 7_ of the primary map (R149). -/
def primaryRow7 : List PrimaryEntry :=
  [fun _ _ => .ldMemHlB, fun _ _ => .ldMemHlC, fun _ _ => .ldMemHlD, fun _ _ => .ldMemHlE,
   fun _ _ => .ldMemHlH, fun _ _ => .ldMemHlL, fun _ _ => .halt, fun _ _ => .ldMemHlA,
   fun _ _ => .ldAB, fun _ _ => .ldAC, fun _ _ => .ldAD, fun _ _ => .ldAE,
   fun _ _ => .ldAH, fun _ _ => .ldAL, fun _ _ => .ldAMemHl, fun _ _ => .ldAA]

/-- Row 8_ of the primary map (R149). -/
def primaryRow8 : List PrimaryEntry :=
  [fun _ _ => .addAB, fun _ _ => .addAC, fun _ _ => .addAD, fun _ _ => .addAE,
   fun _ _ => .addAH, fun _ _ => .addAL, fun _ _ => .addAMemHl, fun _ _ => .addAA,
   fun _ _ => .adcAB, fun _ _ => .adcAC, fun _ _ => .adcAD, fun _ _ => .adcAE,
   fun _ _ => .adcAH, fun _ _ => .adcAL, fun _ _ => .adcAMemHl, fun _ _ => .adcAA]

/-- Row 9_ of the primary map (R149). -/
def primaryRow9 : List PrimaryEntry :=
  [fun _ _ => .subB, fun _ _ => .subC, fun _ _ => .subD, fun _ _ => .subE,
   fun _ _ => .subH, fun _ _ => .subL, fun _ _ => .subMemHl, fun _ _ => .subA,
   fun _ _ => .sbcAB, fun _ _ => .sbcAC, fun _ _ => .sbcAD, fun _ _ => .sbcAE,
   fun _ _ => .sbcAH, fun _ _ => .sbcAL, fun _ _ => .sbcAMemHl, fun _ _ => .sbcAA]

/-- Row A_ of the primary map (R149). -/
def primaryRowA : List PrimaryEntry :=
  [fun _ _ => .andB, fun _ _ => .andC, fun _ _ => .andD, fun _ _ => .andE,
   fun _ _ => .andH, fun _ _ => .andL, fun _ _ => .andMemHl, fun _ _ => .andA,
   fun _ _ => .xorB, fun _ _ => .xorC, fun _ _ => .xorD, fun _ _ => .xorE,
   fun _ _ => .xorH, fun _ _ => .xorL, fun _ _ => .xorMemHl, fun _ _ => .xorA]

/-- Row B_ of the primary map (R149). -/
def primaryRowB : List PrimaryEntry :=
  [fun _ _ => .orB, fun _ _ => .orC, fun _ _ => .orD, fun _ _ => .orE,
   fun _ _ => .orH, fun _ _ => .orL, fun _ _ => .orMemHl, fun _ _ => .orA,
   fun _ _ => .cpB, fun _ _ => .cpC, fun _ _ => .cpD, fun _ _ => .cpE,
   fun _ _ => .cpH, fun _ _ => .cpL, fun _ _ => .cpMemHl, fun _ _ => .cpA]

/-- Row C_ of the primary map (R149). -/
def primaryRowC : List PrimaryEntry :=
  [fun _ _ => .retNz, fun _ _ => .popBc, fun lo hi => .jpNzA16 (wordOf lo hi), fun lo hi => .jpA16 (wordOf lo hi),
   fun lo hi => .callNzA16 (wordOf lo hi), fun _ _ => .pushBc, fun n _ => .addAD8 n, fun _ _ => .rst00,
   fun _ _ => .retZ, fun _ _ => .ret, fun lo hi => .jpZA16 (wordOf lo hi), fun c _ => decodeSecondary c,
   fun lo hi => .callZA16 (wordOf lo hi), fun lo hi => .callA16 (wordOf lo hi), fun n _ => .adcAD8 n, fun _ _ => .rst08]

/-- Row D_ of the primary map (R149). -/
def primaryRowD : List PrimaryEntry :=
  [fun _ _ => .retNc, fun _ _ => .popDe, fun lo hi => .jpNcA16 (wordOf lo hi), fun _ _ => .illegalD3,
   fun lo hi => .callNcA16 (wordOf lo hi), fun _ _ => .pushDe, fun n _ => .subD8 n, fun _ _ => .rst10,
   fun _ _ => .retC, fun _ _ => .reti, fun lo hi => .jpCA16 (wordOf lo hi), fun _ _ => .illegalDB,
   fun lo hi => .callCA16 (wordOf lo hi), fun _ _ => .illegalDD, fun n _ => .sbcAD8 n, fun _ _ => .rst18]

/-- Row E_ of the primary map (R149). -/
def primaryRowE : List PrimaryEntry :=
  [fun n _ => .ldhMemA8A n, fun _ _ => .popHl, fun _ _ => .ldMemCA, fun _ _ => .illegalE3,
   fun _ _ => .illegalE4, fun _ _ => .pushHl, fun n _ => .andD8 n, fun _ _ => .rst20,
   fun n _ => .addSpE8 n, fun _ _ => .jpHl, fun lo hi => .ldMemA16A (wordOf lo hi), fun _ _ => .illegalEB,
   fun _ _ => .illegalEC, fun _ _ => .illegalED, fun n _ => .xorD8 n, fun _ _ => .rst28]

/-- Row F_ of the primary map (R149). -/
def primaryRowF : List PrimaryEntry :=
  [fun n _ => .ldhAMemA8 n, fun _ _ => .popAf, fun _ _ => .ldAMemC, fun _ _ => .di,
   fun _ _ => .illegalF4, fun _ _ => .pushAf, fun n _ => .orD8 n, fun _ _ => .rst30,
   fun n _ => .ldHlSpE8 n, fun _ _ => .ldSpHl, fun lo hi => .ldAMemA16 (wordOf lo hi), fun _ _ => .ei,
   fun _ _ => .illegalFC, fun _ _ => .illegalFD, fun n _ => .cpD8 n, fun _ _ => .rst38]

/-- The primary opcode map (R149). -/
def primaryTable : List PrimaryEntry :=
  primaryRow0 ++ primaryRow1 ++ primaryRow2 ++ primaryRow3 ++ primaryRow4 ++ primaryRow5 ++ primaryRow6 ++ primaryRow7 ++
  primaryRow8 ++ primaryRow9 ++ primaryRowA ++ primaryRowB ++ primaryRowC ++ primaryRowD ++ primaryRowE ++ primaryRowF

/-- The instruction that begins with the byte `op` and goes on with `b1` and `b2`, as far as it is that long. -/
def decodeBytes (op b1 b2 : Byte) : Instr := primaryTable.getD op.toNat (fun _ _ => .nop) b1 b2

/-! ### Lengths (R153) -/

/-- The length table of R153, row by row; an unassigned opcode is one byte (R356), `0xCB` is two. -/
def lengthTable : List Nat :=
  [1, 3, 1, 1, 1, 1, 2, 1, 3, 1, 1, 1, 1, 1, 2, 1,
   2, 3, 1, 1, 1, 1, 2, 1, 2, 1, 1, 1, 1, 1, 2, 1,
   2, 3, 1, 1, 1, 1, 2, 1, 2, 1, 1, 1, 1, 1, 2, 1,
   2, 3, 1, 1, 1, 1, 2, 1, 2, 1, 1, 1, 1, 1, 2, 1,
   1, 1, 1, 1, 1, 1, 1, 1, 1, 1, 1, 1, 1, 1, 1, 1,
   1, 1, 1, 1, 1, 1, 1, 1, 1, 1, 1, 1, 1, 1, 1, 1,
   1, 1, 1, 1, 1, 1, 1, 1, 1, 1, 1, 1, 1, 1, 1, 1,
   1, 1, 1, 1, 1, 1, 1, 1, 1, 1, 1, 1, 1, 1, 1, 1] ++
  [1, 1, 1, 1, 1, 1, 1, 1, 1, 1, 1, 1, 1, 1, 1, 1,
   1, 1, 1, 1, 1, 1, 1, 1, 1, 1, 1, 1, 1, 1, 1, 1,
   1, 1, 1, 1, 1, 1, 1, 1, 1, 1, 1, 1, 1, 1, 1, 1,
   1, 1, 1, 1, 1, 1, 1, 1, 1, 1, 1, 1, 1, 1, 1, 1,
   1, 1, 3, 3, 3, 1, 2, 1, 1, 1, 3, 2, 3, 3, 2, 1,
   1, 1, 3, 1, 3, 1, 2, 1, 1, 1, 3, 1, 3, 1, 2, 1,
   2, 1, 1, 1, 1, 1, 2, 1, 2, 1, 3, 1, 1, 1, 2, 1,
   2, 1, 1, 1, 1, 1, 2, 1, 2, 1, 3, 1, 1, 1, 2, 1]

/-- How many bytes the instruction with opcode byte `op` has (R140, R153): the first byte alone fixes it. STOP has two
under the decided `STOP_LENGTH` (R352). -/
def opLength (op : Byte) : Nat := lengthTable.getD op.toNat 1

/-! ### The decoder -/

/-- Why a list of bytes is no instruction. No byte value is a reason (R152, R356). -/
inductive DecodeError where
  /-- The list is empty. -/
  | noBytes
  /-- The instruction that begins with `op` needs more bytes than there are. -/
  | truncated (op : Byte) (need : Nat)
deriving DecidableEq, Repr

/-- Decode the first instruction of a list of bytes: the instruction and the rest of the list (R140, R141). Total on any
bytes; a list that is too short is rejected by name. -/
def decode : List Byte → Except DecodeError (Instr × List Byte)
  | [] => .error .noBytes
  | op :: rest =>
    if rest.length + 1 < opLength op then .error (.truncated op (opLength op))
    else .ok (decodeBytes op (rest.getD 0 0) (rest.getD 1 0), rest.drop (opLength op - 1))

/-! ### The encoder -/

/-- The bytes of an instruction (R140, R149, R151). STOP's ignored byte (R152) is written as 0. -/
def encode : Instr → List Byte
  | .nop => [0x00]
  | .ldBcD16 d => [0x01, lowByte d, highByte d]
  | .ldMemBcA => [0x02]
  | .incBc => [0x03]
  | .incB => [0x04]
  | .decB => [0x05]
  | .ldBD8 n => [0x06, n]
  | .rlca => [0x07]
  | .ldMemA16Sp a => [0x08, lowByte a, highByte a]
  | .addHlBc => [0x09]
  | .ldAMemBc => [0x0A]
  | .decBc => [0x0B]
  | .incC => [0x0C]
  | .decC => [0x0D]
  | .ldCD8 n => [0x0E, n]
  | .rrca => [0x0F]
  | .stop => [0x10, 0x00]
  | .ldDeD16 d => [0x11, lowByte d, highByte d]
  | .ldMemDeA => [0x12]
  | .incDe => [0x13]
  | .incD => [0x14]
  | .decD => [0x15]
  | .ldDD8 n => [0x16, n]
  | .rla => [0x17]
  | .jrE8 e => [0x18, e]
  | .addHlDe => [0x19]
  | .ldAMemDe => [0x1A]
  | .decDe => [0x1B]
  | .incE => [0x1C]
  | .decE => [0x1D]
  | .ldED8 n => [0x1E, n]
  | .rra => [0x1F]
  | .jrNzE8 e => [0x20, e]
  | .ldHlD16 d => [0x21, lowByte d, highByte d]
  | .ldMemHlIncA => [0x22]
  | .incHl => [0x23]
  | .incH => [0x24]
  | .decH => [0x25]
  | .ldHD8 n => [0x26, n]
  | .daa => [0x27]
  | .jrZE8 e => [0x28, e]
  | .addHlHl => [0x29]
  | .ldAMemHlInc => [0x2A]
  | .decHl => [0x2B]
  | .incL => [0x2C]
  | .decL => [0x2D]
  | .ldLD8 n => [0x2E, n]
  | .cpl => [0x2F]
  | .jrNcE8 e => [0x30, e]
  | .ldSpD16 d => [0x31, lowByte d, highByte d]
  | .ldMemHlDecA => [0x32]
  | .incSp => [0x33]
  | .incMemHl => [0x34]
  | .decMemHl => [0x35]
  | .ldMemHlD8 n => [0x36, n]
  | .scf => [0x37]
  | .jrCE8 e => [0x38, e]
  | .addHlSp => [0x39]
  | .ldAMemHlDec => [0x3A]
  | .decSp => [0x3B]
  | .incA => [0x3C]
  | .decA => [0x3D]
  | .ldAD8 n => [0x3E, n]
  | .ccf => [0x3F]
  | .ldBB => [0x40]
  | .ldBC => [0x41]
  | .ldBD => [0x42]
  | .ldBE => [0x43]
  | .ldBH => [0x44]
  | .ldBL => [0x45]
  | .ldBMemHl => [0x46]
  | .ldBA => [0x47]
  | .ldCB => [0x48]
  | .ldCC => [0x49]
  | .ldCD => [0x4A]
  | .ldCE => [0x4B]
  | .ldCH => [0x4C]
  | .ldCL => [0x4D]
  | .ldCMemHl => [0x4E]
  | .ldCA => [0x4F]
  | .ldDB => [0x50]
  | .ldDC => [0x51]
  | .ldDD => [0x52]
  | .ldDE => [0x53]
  | .ldDH => [0x54]
  | .ldDL => [0x55]
  | .ldDMemHl => [0x56]
  | .ldDA => [0x57]
  | .ldEB => [0x58]
  | .ldEC => [0x59]
  | .ldED => [0x5A]
  | .ldEE => [0x5B]
  | .ldEH => [0x5C]
  | .ldEL => [0x5D]
  | .ldEMemHl => [0x5E]
  | .ldEA => [0x5F]
  | .ldHB => [0x60]
  | .ldHC => [0x61]
  | .ldHD => [0x62]
  | .ldHE => [0x63]
  | .ldHH => [0x64]
  | .ldHL => [0x65]
  | .ldHMemHl => [0x66]
  | .ldHA => [0x67]
  | .ldLB => [0x68]
  | .ldLC => [0x69]
  | .ldLD => [0x6A]
  | .ldLE => [0x6B]
  | .ldLH => [0x6C]
  | .ldLL => [0x6D]
  | .ldLMemHl => [0x6E]
  | .ldLA => [0x6F]
  | .ldMemHlB => [0x70]
  | .ldMemHlC => [0x71]
  | .ldMemHlD => [0x72]
  | .ldMemHlE => [0x73]
  | .ldMemHlH => [0x74]
  | .ldMemHlL => [0x75]
  | .halt => [0x76]
  | .ldMemHlA => [0x77]
  | .ldAB => [0x78]
  | .ldAC => [0x79]
  | .ldAD => [0x7A]
  | .ldAE => [0x7B]
  | .ldAH => [0x7C]
  | .ldAL => [0x7D]
  | .ldAMemHl => [0x7E]
  | .ldAA => [0x7F]
  | .addAB => [0x80]
  | .addAC => [0x81]
  | .addAD => [0x82]
  | .addAE => [0x83]
  | .addAH => [0x84]
  | .addAL => [0x85]
  | .addAMemHl => [0x86]
  | .addAA => [0x87]
  | .adcAB => [0x88]
  | .adcAC => [0x89]
  | .adcAD => [0x8A]
  | .adcAE => [0x8B]
  | .adcAH => [0x8C]
  | .adcAL => [0x8D]
  | .adcAMemHl => [0x8E]
  | .adcAA => [0x8F]
  | .subB => [0x90]
  | .subC => [0x91]
  | .subD => [0x92]
  | .subE => [0x93]
  | .subH => [0x94]
  | .subL => [0x95]
  | .subMemHl => [0x96]
  | .subA => [0x97]
  | .sbcAB => [0x98]
  | .sbcAC => [0x99]
  | .sbcAD => [0x9A]
  | .sbcAE => [0x9B]
  | .sbcAH => [0x9C]
  | .sbcAL => [0x9D]
  | .sbcAMemHl => [0x9E]
  | .sbcAA => [0x9F]
  | .andB => [0xA0]
  | .andC => [0xA1]
  | .andD => [0xA2]
  | .andE => [0xA3]
  | .andH => [0xA4]
  | .andL => [0xA5]
  | .andMemHl => [0xA6]
  | .andA => [0xA7]
  | .xorB => [0xA8]
  | .xorC => [0xA9]
  | .xorD => [0xAA]
  | .xorE => [0xAB]
  | .xorH => [0xAC]
  | .xorL => [0xAD]
  | .xorMemHl => [0xAE]
  | .xorA => [0xAF]
  | .orB => [0xB0]
  | .orC => [0xB1]
  | .orD => [0xB2]
  | .orE => [0xB3]
  | .orH => [0xB4]
  | .orL => [0xB5]
  | .orMemHl => [0xB6]
  | .orA => [0xB7]
  | .cpB => [0xB8]
  | .cpC => [0xB9]
  | .cpD => [0xBA]
  | .cpE => [0xBB]
  | .cpH => [0xBC]
  | .cpL => [0xBD]
  | .cpMemHl => [0xBE]
  | .cpA => [0xBF]
  | .retNz => [0xC0]
  | .popBc => [0xC1]
  | .jpNzA16 a => [0xC2, lowByte a, highByte a]
  | .jpA16 a => [0xC3, lowByte a, highByte a]
  | .callNzA16 a => [0xC4, lowByte a, highByte a]
  | .pushBc => [0xC5]
  | .addAD8 n => [0xC6, n]
  | .rst00 => [0xC7]
  | .retZ => [0xC8]
  | .ret => [0xC9]
  | .jpZA16 a => [0xCA, lowByte a, highByte a]
  | .prefixCb c => [0xCB, c]
  | .callZA16 a => [0xCC, lowByte a, highByte a]
  | .callA16 a => [0xCD, lowByte a, highByte a]
  | .adcAD8 n => [0xCE, n]
  | .rst08 => [0xCF]
  | .retNc => [0xD0]
  | .popDe => [0xD1]
  | .jpNcA16 a => [0xD2, lowByte a, highByte a]
  | .illegalD3 => [0xD3]
  | .callNcA16 a => [0xD4, lowByte a, highByte a]
  | .pushDe => [0xD5]
  | .subD8 n => [0xD6, n]
  | .rst10 => [0xD7]
  | .retC => [0xD8]
  | .reti => [0xD9]
  | .jpCA16 a => [0xDA, lowByte a, highByte a]
  | .illegalDB => [0xDB]
  | .callCA16 a => [0xDC, lowByte a, highByte a]
  | .illegalDD => [0xDD]
  | .sbcAD8 n => [0xDE, n]
  | .rst18 => [0xDF]
  | .ldhMemA8A n => [0xE0, n]
  | .popHl => [0xE1]
  | .ldMemCA => [0xE2]
  | .illegalE3 => [0xE3]
  | .illegalE4 => [0xE4]
  | .pushHl => [0xE5]
  | .andD8 n => [0xE6, n]
  | .rst20 => [0xE7]
  | .addSpE8 e => [0xE8, e]
  | .jpHl => [0xE9]
  | .ldMemA16A a => [0xEA, lowByte a, highByte a]
  | .illegalEB => [0xEB]
  | .illegalEC => [0xEC]
  | .illegalED => [0xED]
  | .xorD8 n => [0xEE, n]
  | .rst28 => [0xEF]
  | .ldhAMemA8 n => [0xF0, n]
  | .popAf => [0xF1]
  | .ldAMemC => [0xF2]
  | .di => [0xF3]
  | .illegalF4 => [0xF4]
  | .pushAf => [0xF5]
  | .orD8 n => [0xF6, n]
  | .rst30 => [0xF7]
  | .ldHlSpE8 e => [0xF8, e]
  | .ldSpHl => [0xF9]
  | .ldAMemA16 a => [0xFA, lowByte a, highByte a]
  | .ei => [0xFB]
  | .illegalFC => [0xFC]
  | .illegalFD => [0xFD]
  | .cpD8 n => [0xFE, n]
  | .rst38 => [0xFF]
  | .rlcB => [0xCB, 0x00]
  | .rlcC => [0xCB, 0x01]
  | .rlcD => [0xCB, 0x02]
  | .rlcE => [0xCB, 0x03]
  | .rlcH => [0xCB, 0x04]
  | .rlcL => [0xCB, 0x05]
  | .rlcMemHl => [0xCB, 0x06]
  | .rlcA => [0xCB, 0x07]
  | .rrcB => [0xCB, 0x08]
  | .rrcC => [0xCB, 0x09]
  | .rrcD => [0xCB, 0x0A]
  | .rrcE => [0xCB, 0x0B]
  | .rrcH => [0xCB, 0x0C]
  | .rrcL => [0xCB, 0x0D]
  | .rrcMemHl => [0xCB, 0x0E]
  | .rrcA => [0xCB, 0x0F]
  | .rlB => [0xCB, 0x10]
  | .rlC => [0xCB, 0x11]
  | .rlD => [0xCB, 0x12]
  | .rlE => [0xCB, 0x13]
  | .rlH => [0xCB, 0x14]
  | .rlL => [0xCB, 0x15]
  | .rlMemHl => [0xCB, 0x16]
  | .rlA => [0xCB, 0x17]
  | .rrB => [0xCB, 0x18]
  | .rrC => [0xCB, 0x19]
  | .rrD => [0xCB, 0x1A]
  | .rrE => [0xCB, 0x1B]
  | .rrH => [0xCB, 0x1C]
  | .rrL => [0xCB, 0x1D]
  | .rrMemHl => [0xCB, 0x1E]
  | .rrA => [0xCB, 0x1F]
  | .slaB => [0xCB, 0x20]
  | .slaC => [0xCB, 0x21]
  | .slaD => [0xCB, 0x22]
  | .slaE => [0xCB, 0x23]
  | .slaH => [0xCB, 0x24]
  | .slaL => [0xCB, 0x25]
  | .slaMemHl => [0xCB, 0x26]
  | .slaA => [0xCB, 0x27]
  | .sraB => [0xCB, 0x28]
  | .sraC => [0xCB, 0x29]
  | .sraD => [0xCB, 0x2A]
  | .sraE => [0xCB, 0x2B]
  | .sraH => [0xCB, 0x2C]
  | .sraL => [0xCB, 0x2D]
  | .sraMemHl => [0xCB, 0x2E]
  | .sraA => [0xCB, 0x2F]
  | .swapB => [0xCB, 0x30]
  | .swapC => [0xCB, 0x31]
  | .swapD => [0xCB, 0x32]
  | .swapE => [0xCB, 0x33]
  | .swapH => [0xCB, 0x34]
  | .swapL => [0xCB, 0x35]
  | .swapMemHl => [0xCB, 0x36]
  | .swapA => [0xCB, 0x37]
  | .srlB => [0xCB, 0x38]
  | .srlC => [0xCB, 0x39]
  | .srlD => [0xCB, 0x3A]
  | .srlE => [0xCB, 0x3B]
  | .srlH => [0xCB, 0x3C]
  | .srlL => [0xCB, 0x3D]
  | .srlMemHl => [0xCB, 0x3E]
  | .srlA => [0xCB, 0x3F]
  | .bit0B => [0xCB, 0x40]
  | .bit0C => [0xCB, 0x41]
  | .bit0D => [0xCB, 0x42]
  | .bit0E => [0xCB, 0x43]
  | .bit0H => [0xCB, 0x44]
  | .bit0L => [0xCB, 0x45]
  | .bit0MemHl => [0xCB, 0x46]
  | .bit0A => [0xCB, 0x47]
  | .bit1B => [0xCB, 0x48]
  | .bit1C => [0xCB, 0x49]
  | .bit1D => [0xCB, 0x4A]
  | .bit1E => [0xCB, 0x4B]
  | .bit1H => [0xCB, 0x4C]
  | .bit1L => [0xCB, 0x4D]
  | .bit1MemHl => [0xCB, 0x4E]
  | .bit1A => [0xCB, 0x4F]
  | .bit2B => [0xCB, 0x50]
  | .bit2C => [0xCB, 0x51]
  | .bit2D => [0xCB, 0x52]
  | .bit2E => [0xCB, 0x53]
  | .bit2H => [0xCB, 0x54]
  | .bit2L => [0xCB, 0x55]
  | .bit2MemHl => [0xCB, 0x56]
  | .bit2A => [0xCB, 0x57]
  | .bit3B => [0xCB, 0x58]
  | .bit3C => [0xCB, 0x59]
  | .bit3D => [0xCB, 0x5A]
  | .bit3E => [0xCB, 0x5B]
  | .bit3H => [0xCB, 0x5C]
  | .bit3L => [0xCB, 0x5D]
  | .bit3MemHl => [0xCB, 0x5E]
  | .bit3A => [0xCB, 0x5F]
  | .bit4B => [0xCB, 0x60]
  | .bit4C => [0xCB, 0x61]
  | .bit4D => [0xCB, 0x62]
  | .bit4E => [0xCB, 0x63]
  | .bit4H => [0xCB, 0x64]
  | .bit4L => [0xCB, 0x65]
  | .bit4MemHl => [0xCB, 0x66]
  | .bit4A => [0xCB, 0x67]
  | .bit5B => [0xCB, 0x68]
  | .bit5C => [0xCB, 0x69]
  | .bit5D => [0xCB, 0x6A]
  | .bit5E => [0xCB, 0x6B]
  | .bit5H => [0xCB, 0x6C]
  | .bit5L => [0xCB, 0x6D]
  | .bit5MemHl => [0xCB, 0x6E]
  | .bit5A => [0xCB, 0x6F]
  | .bit6B => [0xCB, 0x70]
  | .bit6C => [0xCB, 0x71]
  | .bit6D => [0xCB, 0x72]
  | .bit6E => [0xCB, 0x73]
  | .bit6H => [0xCB, 0x74]
  | .bit6L => [0xCB, 0x75]
  | .bit6MemHl => [0xCB, 0x76]
  | .bit6A => [0xCB, 0x77]
  | .bit7B => [0xCB, 0x78]
  | .bit7C => [0xCB, 0x79]
  | .bit7D => [0xCB, 0x7A]
  | .bit7E => [0xCB, 0x7B]
  | .bit7H => [0xCB, 0x7C]
  | .bit7L => [0xCB, 0x7D]
  | .bit7MemHl => [0xCB, 0x7E]
  | .bit7A => [0xCB, 0x7F]
  | .res0B => [0xCB, 0x80]
  | .res0C => [0xCB, 0x81]
  | .res0D => [0xCB, 0x82]
  | .res0E => [0xCB, 0x83]
  | .res0H => [0xCB, 0x84]
  | .res0L => [0xCB, 0x85]
  | .res0MemHl => [0xCB, 0x86]
  | .res0A => [0xCB, 0x87]
  | .res1B => [0xCB, 0x88]
  | .res1C => [0xCB, 0x89]
  | .res1D => [0xCB, 0x8A]
  | .res1E => [0xCB, 0x8B]
  | .res1H => [0xCB, 0x8C]
  | .res1L => [0xCB, 0x8D]
  | .res1MemHl => [0xCB, 0x8E]
  | .res1A => [0xCB, 0x8F]
  | .res2B => [0xCB, 0x90]
  | .res2C => [0xCB, 0x91]
  | .res2D => [0xCB, 0x92]
  | .res2E => [0xCB, 0x93]
  | .res2H => [0xCB, 0x94]
  | .res2L => [0xCB, 0x95]
  | .res2MemHl => [0xCB, 0x96]
  | .res2A => [0xCB, 0x97]
  | .res3B => [0xCB, 0x98]
  | .res3C => [0xCB, 0x99]
  | .res3D => [0xCB, 0x9A]
  | .res3E => [0xCB, 0x9B]
  | .res3H => [0xCB, 0x9C]
  | .res3L => [0xCB, 0x9D]
  | .res3MemHl => [0xCB, 0x9E]
  | .res3A => [0xCB, 0x9F]
  | .res4B => [0xCB, 0xA0]
  | .res4C => [0xCB, 0xA1]
  | .res4D => [0xCB, 0xA2]
  | .res4E => [0xCB, 0xA3]
  | .res4H => [0xCB, 0xA4]
  | .res4L => [0xCB, 0xA5]
  | .res4MemHl => [0xCB, 0xA6]
  | .res4A => [0xCB, 0xA7]
  | .res5B => [0xCB, 0xA8]
  | .res5C => [0xCB, 0xA9]
  | .res5D => [0xCB, 0xAA]
  | .res5E => [0xCB, 0xAB]
  | .res5H => [0xCB, 0xAC]
  | .res5L => [0xCB, 0xAD]
  | .res5MemHl => [0xCB, 0xAE]
  | .res5A => [0xCB, 0xAF]
  | .res6B => [0xCB, 0xB0]
  | .res6C => [0xCB, 0xB1]
  | .res6D => [0xCB, 0xB2]
  | .res6E => [0xCB, 0xB3]
  | .res6H => [0xCB, 0xB4]
  | .res6L => [0xCB, 0xB5]
  | .res6MemHl => [0xCB, 0xB6]
  | .res6A => [0xCB, 0xB7]
  | .res7B => [0xCB, 0xB8]
  | .res7C => [0xCB, 0xB9]
  | .res7D => [0xCB, 0xBA]
  | .res7E => [0xCB, 0xBB]
  | .res7H => [0xCB, 0xBC]
  | .res7L => [0xCB, 0xBD]
  | .res7MemHl => [0xCB, 0xBE]
  | .res7A => [0xCB, 0xBF]
  | .set0B => [0xCB, 0xC0]
  | .set0C => [0xCB, 0xC1]
  | .set0D => [0xCB, 0xC2]
  | .set0E => [0xCB, 0xC3]
  | .set0H => [0xCB, 0xC4]
  | .set0L => [0xCB, 0xC5]
  | .set0MemHl => [0xCB, 0xC6]
  | .set0A => [0xCB, 0xC7]
  | .set1B => [0xCB, 0xC8]
  | .set1C => [0xCB, 0xC9]
  | .set1D => [0xCB, 0xCA]
  | .set1E => [0xCB, 0xCB]
  | .set1H => [0xCB, 0xCC]
  | .set1L => [0xCB, 0xCD]
  | .set1MemHl => [0xCB, 0xCE]
  | .set1A => [0xCB, 0xCF]
  | .set2B => [0xCB, 0xD0]
  | .set2C => [0xCB, 0xD1]
  | .set2D => [0xCB, 0xD2]
  | .set2E => [0xCB, 0xD3]
  | .set2H => [0xCB, 0xD4]
  | .set2L => [0xCB, 0xD5]
  | .set2MemHl => [0xCB, 0xD6]
  | .set2A => [0xCB, 0xD7]
  | .set3B => [0xCB, 0xD8]
  | .set3C => [0xCB, 0xD9]
  | .set3D => [0xCB, 0xDA]
  | .set3E => [0xCB, 0xDB]
  | .set3H => [0xCB, 0xDC]
  | .set3L => [0xCB, 0xDD]
  | .set3MemHl => [0xCB, 0xDE]
  | .set3A => [0xCB, 0xDF]
  | .set4B => [0xCB, 0xE0]
  | .set4C => [0xCB, 0xE1]
  | .set4D => [0xCB, 0xE2]
  | .set4E => [0xCB, 0xE3]
  | .set4H => [0xCB, 0xE4]
  | .set4L => [0xCB, 0xE5]
  | .set4MemHl => [0xCB, 0xE6]
  | .set4A => [0xCB, 0xE7]
  | .set5B => [0xCB, 0xE8]
  | .set5C => [0xCB, 0xE9]
  | .set5D => [0xCB, 0xEA]
  | .set5E => [0xCB, 0xEB]
  | .set5H => [0xCB, 0xEC]
  | .set5L => [0xCB, 0xED]
  | .set5MemHl => [0xCB, 0xEE]
  | .set5A => [0xCB, 0xEF]
  | .set6B => [0xCB, 0xF0]
  | .set6C => [0xCB, 0xF1]
  | .set6D => [0xCB, 0xF2]
  | .set6E => [0xCB, 0xF3]
  | .set6H => [0xCB, 0xF4]
  | .set6L => [0xCB, 0xF5]
  | .set6MemHl => [0xCB, 0xF6]
  | .set6A => [0xCB, 0xF7]
  | .set7B => [0xCB, 0xF8]
  | .set7C => [0xCB, 0xF9]
  | .set7D => [0xCB, 0xFA]
  | .set7E => [0xCB, 0xFB]
  | .set7H => [0xCB, 0xFC]
  | .set7L => [0xCB, 0xFD]
  | .set7MemHl => [0xCB, 0xFE]
  | .set7A => [0xCB, 0xFF]

/-! ### The opcode table's own words -/

/-- The three bytes of an instruction whose bits are `w`, numbered as spec/opcode_table.json numbers them: with 16 bits and
0xCB as the upper byte, `w` is the table's number of a secondary row, whose first byte is the upper one (its match 0xCBcc,
its encoding `11001011 cccccccc`); otherwise the first byte is bits 7..0, the next bits 15..8, and so on (log entry 9). -/
def tableBytes (nbits w : Nat) : List Byte :=
  let v := w % 2 ^ nbits
  if nbits = 16 ∧ v / 256 = 0xCB then [0xCB, BitVec.ofNat 8 v, 0]
  else [BitVec.ofNat 8 v, BitVec.ofNat 8 (v / 256), BitVec.ofNat 8 (v / 65536)]

/-- The instruction the decoder reads from a word of spec/opcode_table.json, the bits above `nbits` being 0. -/
def decodeTableWord (nbits w : Nat) : Option Instr :=
  match decode (tableBytes nbits w) with
  | .ok (i, _) => some i
  | .error _ => none

end Sys2Proof
end

