-- ==== Sys2Proof/Config.lean ====
section
/-! DEFINITION. The named parameters of 00_scope.md R6: what a launch of the machine fixes. `Params.decided` holds the
values 92_eei_decisions.md decides. The machine carries its parameters in `State.params`, and no step changes them. The
spec leaves no value free, so there is no opaque constant here (NOTES.md says why). -/

namespace Sys2Proof

/-- `ILLEGAL_OPCODE_POLICY` (R6, R150, R356). -/
inductive IllegalOpcodePolicy where
  /-- An unassigned opcode raises the fatal decode failure. -/
  | fault
  /-- An unassigned opcode is a 1-byte no-op. -/
  | nopAdvance
deriving DecidableEq, Repr

/-- `HALT_WAKE_MASK` (R6, R403). -/
inductive HaltWakeMask where
  /-- Any set bit of IF[4:0] wakes a halted CPU. -/
  | ifOnly
  /-- Only a set bit of IE & IF & 0x1F wakes it. -/
  | ieAndIf
deriving DecidableEq, Repr

/-- `STOP_LENGTH` (R6, R352): 1 or 2 bytes. -/
inductive StopLength where
  | one
  | two
deriving DecidableEq, Repr

/-- `SUB_HALF_CARRY` (R6, R253, R254, R258). -/
inductive SubHalfCarry where
  /-- H is the borrow out of the low nibble. -/
  | standard
  /-- H is always 0: the original program's never-true test. -/
  | sourceBug
deriving DecidableEq, Repr

/-- `LY_WRITE` (R6, R104). -/
inductive LyWrite where
  /-- A CPU write to LY stores 0. -/
  | reset
  /-- A CPU write to LY is dropped. -/
  | ignore
deriving DecidableEq, Repr

/-- `family` of R42: which bank-switch controller the cartridge holds. -/
inductive MbcFamily where
  | noMbc
  | mbc1
  | mbc2
  | mbc3
deriving DecidableEq, Repr

/-- One row of `CART_TYPE_TABLE` (R501): header byte 0x147, the family and the battery flag. -/
structure CartType where
  code : Byte
  family : MbcFamily
  battery : Bool
deriving DecidableEq, Repr

/-- A natural number above 0, the range of HALT_STEP_CYCLES and STOP_STEP_CYCLES (R6). -/
abbrev PosNat := { n : Nat // 0 < n }

/-- The named parameters of R6 that are not launch inputs. -/
structure Params where
  illegalOpcodePolicy : IllegalOpcodePolicy
  illegalNopCycles : Nat
  intServiceCycles : Nat
  haltStepCycles : PosNat
  stopStepCycles : PosNat
  haltWakeMask : HaltWakeMask
  stopLength : StopLength
  subHalfCarry : SubHalfCarry
  lyWrite : LyWrite
  /-- `CGB_STUB_SET` (R105): a set of I/O addresses. -/
  cgbStubSet : List Nat
  /-- `CART_TYPE_TABLE` (R501): a code that is in no row means no controller and no battery. -/
  cartTypeTable : List CartType
deriving DecidableEq, Repr

/-- The 12 CGB-only addresses of R105. -/
def decidedCgbStubSet : List Nat :=
  [0xFF4D, 0xFF4F, 0xFF51, 0xFF52, 0xFF53, 0xFF54, 0xFF55, 0xFF68, 0xFF69, 0xFF6A, 0xFF6B, 0xFF70]

/-- The lookup of header byte 0x147 that R501 adopts. -/
def decidedCartTypeTable : List CartType :=
  [⟨0x00, .noMbc, false⟩, ⟨0x01, .mbc1, false⟩, ⟨0x02, .mbc1, false⟩, ⟨0x03, .mbc1, true⟩,
   ⟨0x05, .mbc2, false⟩, ⟨0x06, .mbc2, true⟩, ⟨0x08, .noMbc, false⟩, ⟨0x09, .noMbc, true⟩,
   ⟨0x0F, .mbc3, true⟩, ⟨0x10, .mbc3, true⟩, ⟨0x11, .mbc3, false⟩, ⟨0x12, .mbc3, false⟩,
   ⟨0x13, .mbc3, true⟩]

/-- The decided values of R6, third column. -/
def Params.decided : Params where
  illegalOpcodePolicy := .fault
  illegalNopCycles := 4
  intServiceCycles := 20
  haltStepCycles := ⟨4, by decide⟩
  stopStepCycles := ⟨4, by decide⟩
  haltWakeMask := .ifOnly
  stopLength := .two
  subHalfCarry := .standard
  lyWrite := .reset
  cgbStubSet := decidedCgbStubSet
  cartTypeTable := decidedCartTypeTable

end Sys2Proof
end

