-- ==== Sys2Proof/Machine/State.lean ====
section
/-! DEFINITION. The machine's state, all of 10_state.md, as plain data; its faults and refusals; and the state after
reset (70_reset_and_hazards.md R500 to R509). -/

namespace Sys2Proof.Machine

open Sys2Proof

/-- Why a step stops the machine. -/
inductive Fault where
  /-- Raised by `step`, and by nothing else, when the fatal decode failure has been latched in an EARLIER step: R400
  'if fault != none: stop'. The instruction that latches it (an unassigned opcode, R356) itself takes a next state.
  Safe: the machine stops where the spec says that no step follows. -/
  | decodeFault (op : Byte) (addr : Word)
deriving DecidableEq, Repr

/-- Why an instruction has no meaning. -/
inductive Refusal where
  /-- Raised by an arm of `exec` whose instruction has no meaning yet; no arm does (every row of the opcode table is
  modelled). Safe: the model stops. -/
  | notModelled (mnemonic : String)
deriving DecidableEq, Repr

/-- `ime_pend` of R35. -/
inductive ImePend where
  | noChange
  | enable
  | disable
deriving DecidableEq, Repr

/-- `fault` of R38: the unassigned opcode and its address. -/
structure DecodeFault where
  op : Byte
  addr : Word
deriving DecidableEq, Repr

/-- `pressed[b]` of R45, one flag for each of the eight buttons. -/
structure Buttons where
  right : Bool
  left : Bool
  up : Bool
  down : Bool
  a : Bool
  b : Bool
  select : Bool
  start : Bool
deriving DecidableEq, Repr

/-- A framebuffer (R44, R457) in canonical form: the rows that are not all of shade 0, by row number, each a list of
160 shades. -/
abbrev Frame := List (Nat × List Shade)

/-- Every piece of state the spec gives the machine. Memories are lists of (address, byte) pairs in the canonical form
of `Memory.wf` (Machine/Ops.lean). -/
structure State where
  /-- The launch parameters of R6; no step changes them. -/
  params : Params
  /-- The eight 8-bit registers of R30 and R31. -/
  a : Byte
  f : Byte
  b : Byte
  c : Byte
  d : Byte
  e : Byte
  h : Byte
  l : Byte
  /-- R33. -/
  sp : Word
  /-- R32: between steps, the address of the next opcode byte (of the HALT opcode while halted). -/
  pc : Word
  /-- R34. -/
  ime : Bool
  /-- R35. -/
  imePend : ImePend
  /-- R35. -/
  imePendFresh : Bool
  /-- R36. -/
  halted : Bool
  /-- R37. -/
  stopped : Bool
  savedP1 : Byte
  savedLcdc : Byte
  savedTac : Byte
  /-- R38. -/
  fault : Option DecodeFault
  /-- `Raw` of R40: VRAM, work RAM, OAM, the I/O registers of R46 to R62, high RAM, IE, and ROM bank 0. An unlisted
  address reads as `rawReset` says (R505, R506). -/
  raw : List Host.Cell
  /-- `ROM_IMAGE` of R41, by offset; an unlisted offset below `romLen` reads as 0. -/
  romImage : List Host.Cell
  /-- `len(ROM_IMAGE)` of R41. -/
  romLen : Nat
  /-- `RAM_BANKS` of R41, by offset; an unlisted offset reads as 0. -/
  ramBanks : List Host.Cell
  /-- The bank-switch controller of R42. -/
  family : MbcFamily
  hasBattery : Bool
  romBankCount : Nat
  romBank : BitVec 7
  ramBank : BitVec 2
  ramEnabled : Bool
  romBankingMode : Bool
  /-- R43. -/
  divAcc : Nat
  timaAcc : Nat
  /-- R44. -/
  lineAcc : Nat
  oamLatch : Bool
  hblankLatch : Bool
  vblankLatch : Bool
  fb : Frame
  /-- R45. -/
  pressed : Buttons
  /-- `BUTTON_SCHEDULE` of R6: for each coming system step, the next one first, the updates that the host gives before it,
  in their order (R430). After the end of the list the host gives none. -/
  buttonSchedule : List (List Buttons)
  /-- The model's own output field: the frame that `PresentFrame` (R443, R457) handed to the host in the last system
  step, if it did; the last one, if it handed over several (DESIGN CHOICE, log entry 6). -/
  presented : Option Frame
  /-- The model's own output field: what the last CPU step returned (R401), the elapsed clock cycles, or the sentinel
  -1 of R408. -/
  cycles : Int
deriving DecidableEq, Repr

/-- The state `LoadCartridge` leaves (R500 to R506) with the decided parameters and the base image of
95_test_vectors.md (32 KiB of zero bytes, so ROM only), no save image and no button schedule. `Machine/External.lean`
has `loadCartridge` for any image; `Laws/Reset.lean` proves that this is its value at the base image. -/
def State.reset : State where
  params := Params.decided
  a := 0x01
  f := 0xB0
  b := 0x00
  c := 0x13
  d := 0x00
  e := 0xD8
  h := 0x01
  l := 0x4D
  sp := 0xFFFE
  pc := 0x0100
  ime := false
  imePend := .noChange
  imePendFresh := false
  halted := false
  stopped := false
  savedP1 := 0
  savedLcdc := 0
  savedTac := 0
  fault := none
  raw := []
  romImage := []
  romLen := 0x8000
  ramBanks := []
  family := .noMbc
  hasBattery := false
  romBankCount := 2
  romBank := 1
  ramBank := 0
  ramEnabled := false
  romBankingMode := true
  divAcc := 0
  timaAcc := 0
  lineAcc := 0
  oamLatch := false
  hblankLatch := false
  vblankLatch := false
  fb := []
  pressed := ⟨false, false, false, false, false, false, false, false⟩
  buttonSchedule := []
  presented := none
  cycles := 0

end Sys2Proof.Machine
end

