-- ==== Sys2Proof/Machine/Ops.lean ====
section
/-! DEFINITION. The named operations over memory and registers: canonical storage, the bus of 20_memory.md with the
bank-switch controller and the special registers, the stack, and taking and returning from exceptions. -/

namespace Sys2Proof.Machine

open Sys2Proof

/-- What a meaning answers. -/
abbrev Result := Host.Outcome State Fault Refusal

/-! ### Canonical storage -/

/-- The value at key `n`: the listed one, or `dflt n` when nothing is listed. -/
def Memory.read {β : Type} (dflt : Nat → β) : List (Nat × β) → Nat → β
  | [], n => dflt n
  | (k, v) :: rest, n => if k = n then v else Memory.read dflt rest n

/-- Store `v` at key `n`, keeping the keys rising and listing nothing that equals what an unlisted key reads as. -/
def Memory.write {β : Type} [DecidableEq β] (dflt : Nat → β) : List (Nat × β) → Nat → β → List (Nat × β)
  | [], n, v => if v = dflt n then [] else [(n, v)]
  | (k, w) :: rest, n, v =>
    if n < k then (if v = dflt n then (k, w) :: rest else (n, v) :: (k, w) :: rest)
    else if n = k then (if v = dflt n then rest else (n, v) :: rest)
    else (k, w) :: Memory.write dflt rest n v

/-- The canonical form: keys strictly rising and below `size`, and no entry equal to what an unlisted key reads as. -/
def Memory.wf {β : Type} [DecidableEq β] (dflt : Nat → β) (size : Nat) : List (Nat × β) → Bool
  | [] => true
  | (k, v) :: rest =>
    decide (k < size) && decide (v ≠ dflt k) && rest.all (fun cell => decide (k < cell.1)) && Memory.wf dflt size rest

/-! ### `Raw`, the ROM image and the RAM banks (10_state.md R40, R41) -/

/-- The I/O bytes that reset sets, where they are not 0x00 (R506). -/
def ioReset : List Host.Cell :=
  [(0xFF00, 0xCF), (0xFF10, 0x80), (0xFF11, 0xBF), (0xFF12, 0xF3), (0xFF14, 0xBF), (0xFF16, 0x3F), (0xFF19, 0xBF),
   (0xFF1A, 0x7F), (0xFF1B, 0xFF), (0xFF1C, 0x9F), (0xFF1E, 0xBF), (0xFF20, 0xFF), (0xFF23, 0xBF), (0xFF24, 0x77),
   (0xFF25, 0xF3), (0xFF26, 0xF1), (0xFF40, 0x91), (0xFF47, 0xFC), (0xFF48, 0xFF), (0xFF49, 0xFF)]

/-- What an unlisted address of `Raw` reads as: the reset contents of R505 and R506. -/
def rawReset (n : Nat) : Byte := if n < 0xFF00 then 0 else Memory.read (fun _ => 0) ioReset n

/-- What an unlisted offset of the ROM image or of the RAM banks reads as. -/
def zeroByte (_ : Nat) : Byte := 0

/-- `Raw[n]` (00_scope.md R8, R40). -/
def State.rawRead (s : State) (n : Nat) : Byte := Memory.read rawReset s.raw n

/-- `Raw[n] <- v`. -/
def State.rawWrite (s : State) (n : Nat) (v : Byte) : State := { s with raw := Memory.write rawReset s.raw n v }

/-- `ROM_IMAGE[off]`, or 0xFF past the end of the image (R74). -/
def State.romRead (s : State) (off : Nat) : Byte :=
  if off < s.romLen then Memory.read zeroByte s.romImage off else 0xFF

/-- `RAM_BANKS[off]` (R76). -/
def State.ramRead (s : State) (off : Nat) : Byte := Memory.read zeroByte s.ramBanks off

/-- `RAM_BANKS[off] <- v` (R76). -/
def State.ramWrite (s : State) (off : Nat) (v : Byte) : State :=
  { s with ramBanks := Memory.write zeroByte s.ramBanks off v }

/-- The row of the framebuffer that is listed nowhere: all shade 0. -/
def blankRow (_ : Nat) : List Shade := List.replicate 160 0

/-- `FB[y]` (R44). -/
def State.fbRow (s : State) (y : Nat) : List Shade := Memory.read blankRow s.fb y

/-! ### Addresses of the I/O registers (R46 to R59) -/

abbrev ioP1 : Nat := 0xFF00
abbrev ioDiv : Nat := 0xFF04
abbrev ioTima : Nat := 0xFF05
abbrev ioTma : Nat := 0xFF06
abbrev ioTac : Nat := 0xFF07
abbrev ioIf : Nat := 0xFF0F
abbrev ioLcdc : Nat := 0xFF40
abbrev ioStat : Nat := 0xFF41
abbrev ioScy : Nat := 0xFF42
abbrev ioScx : Nat := 0xFF43
abbrev ioLy : Nat := 0xFF44
abbrev ioLyc : Nat := 0xFF45
abbrev ioDma : Nat := 0xFF46
abbrev ioBgp : Nat := 0xFF47
abbrev ioObp0 : Nat := 0xFF48
abbrev ioObp1 : Nat := 0xFF49
abbrev ioWy : Nat := 0xFF4A
abbrev ioWx : Nat := 0xFF4B
abbrev ioIe : Nat := 0xFFFF

/-- `RequestInterrupt(i)` (00_scope.md R8, 60_exceptions.md R407). -/
def requestInterrupt (i : Nat) (s : State) : State := s.rawWrite ioIf (s.rawRead ioIf ||| (1#8 <<< i))

/-- `CheckCoincidence` (60_exceptions.md R444). -/
def checkCoincidence (s : State) : State :=
  if s.rawRead ioLy = s.rawRead ioLyc then
    let t := s.rawWrite ioStat (s.rawRead ioStat ||| 0x04)
    if (t.rawRead ioStat).getLsbD 6 then requestInterrupt 1 t else t
  else s.rawWrite ioStat (s.rawRead ioStat &&& ~~~0x04)

/-! ### The read decoder (R71) -/

/-- The regions of the memory map (R71, R72). -/
inductive Region where
  | romBank0
  | romSwitchable
  | vram
  | externalRam
  | workRam
  | echoRam
  | oam
  | unusable
  | joypad
  | cgbStub
  /-- The other I/O registers, high RAM and IE: storage in `Raw`. -/
  | plainIo
deriving DecidableEq, Repr

/-- The region of an address (R71). The CGB stubs are I/O addresses (R105). -/
def regionOf (p : Params) (n : Nat) : Region :=
  if n < 0x4000 then .romBank0
  else if n < 0x8000 then .romSwitchable
  else if n < 0xA000 then .vram
  else if n < 0xC000 then .externalRam
  else if n < 0xE000 then .workRam
  else if n < 0xFE00 then .echoRam
  else if n < 0xFEA0 then .oam
  else if n < 0xFF00 then .unusable
  else if n = ioP1 then .joypad
  else if n < 0xFF80 ∧ n ∈ p.cgbStubSet then .cgbStub
  else .plainIo

/-- The low nibble of a P1 read: a bit is 0 when a pressed button of a selected group drives it (R99). -/
def joypadNibble (p1 : Byte) (k : Buttons) : Byte :=
  let dirs := !p1.getLsbD 4
  let btns := !p1.getLsbD 5
  (if dirs && k.right || btns && k.a then 0 else 0x01) ||| (if dirs && k.left || btns && k.b then 0 else 0x02) |||
    (if dirs && k.up || btns && k.select then 0 else 0x04) ||| (if dirs && k.down || btns && k.start then 0 else 0x08)

/-- The offset in `ROM_IMAGE` of a switchable-ROM address (R74). -/
def State.romOffset (s : State) (n : Nat) : Nat := s.romBank.toNat * 0x4000 + (n - 0x4000)

/-- The offset in `RAM_BANKS` of an external-RAM address (R76). -/
def State.ramOffset (s : State) (n : Nat) : Nat := s.ramBank.toNat * 0x2000 + (n - 0xA000)

/-- `MemRead(a, 1)` (R71). It has no side effect (R88). -/
def busRead (s : State) (a : Word) : Byte :=
  let n := a.toNat
  match regionOf s.params n with
  | .romBank0 => s.rawRead n
  | .romSwitchable => s.romRead (s.romOffset n)
  | .vram => s.rawRead n
  | .externalRam => if s.ramEnabled then s.ramRead (s.ramOffset n) else 0xFF
  | .workRam => s.rawRead n
  | .echoRam => s.rawRead (n - 0x2000)
  | .oam => s.rawRead n
  | .unusable => 0xFF
  | .joypad => (s.rawRead ioP1 &&& 0xF0) ||| joypadNibble (s.rawRead ioP1) s.pressed
  | .cgbStub => 0xFF
  | .plainIo => s.rawRead n

/-! ### The bank-switch controller (R89 to R97) -/

/-- Select a ROM bank; bank 0 is remapped to bank 1 (R91, R92, R95, R97). -/
def setRomBank (bank : BitVec 7) (s : State) : State := { s with romBank := if bank = 0 then 1 else bank }

/-- The RAM-enable command (R90): a low nibble of 0xA enables, 0x0 disables, any other value is ignored. -/
def ramEnableWrite (v : Byte) (s : State) : State :=
  if v &&& 0x0F = 0x0A then { s with ramEnabled := true }
  else if v &&& 0x0F = 0x00 then { s with ramEnabled := false }
  else s

/-- MBC1 (R90 to R93). -/
def mbc1Write (n : Nat) (v : Byte) (s : State) : State :=
  if n < 0x2000 then ramEnableWrite v s
  else if n < 0x4000 then setRomBank ((s.romBank &&& 0x60#7) ||| (v &&& 0x1F).setWidth 7) s
  else if n < 0x6000 then
    if s.romBankingMode then setRomBank ((s.romBank &&& 0x1F#7) ||| ((v &&& 0x03) <<< 5).setWidth 7) s
    else { s with ramBank := v.setWidth 2 }
  else if v &&& 0x01 = 0 then { s with romBankingMode := true, ramBank := 0 }
  else { s with romBankingMode := false }

/-- MBC2 (R94 to R96). -/
def mbc2Write (n : Nat) (v : Byte) (s : State) : State :=
  if n < 0x2000 then (if n.testBit 8 then s else ramEnableWrite v s)
  else if n < 0x4000 then setRomBank ((v &&& 0x0F).setWidth 7) s
  else s

/-- MBC3 (R97). -/
def mbc3Write (n : Nat) (v : Byte) (s : State) : State :=
  if n < 0x2000 then ramEnableWrite v s
  else if n < 0x4000 then setRomBank (v.setWidth 7) s
  else if n < 0x6000 then (if v ≤ 0x03 then { s with ramBank := v.setWidth 2 } else s)
  else s

/-- A write into 0x0000-0x7FFF: a command, dispatched by the controller family (R89). -/
def mbcWrite (n : Nat) (v : Byte) (s : State) : State :=
  match s.family with
  | .noMbc => s
  | .mbc1 => mbc1Write n v s
  | .mbc2 => mbc2Write n v s
  | .mbc3 => mbc3Write n v s

/-! ### The write decoder (R72) -/

/-- The first `k` bytes of the OAM DMA from `src`, in increasing order, read through the bus (R102). -/
def dmaCopy (src : Word) : Nat → State → State
  | 0, s => s
  | k + 1, s =>
    let t := dmaCopy src k s
    t.rawWrite (0xFE00 + k) (busRead t (src + BitVec.ofNat 16 k))

/-- A write to 0xFF01-0xFFFF: the special registers in the order of R72, then the CGB stubs, then plain storage
(R100 to R106). -/
def registerWrite (n : Nat) (v : Byte) (s : State) : State :=
  if n = ioDiv then s.rawWrite ioDiv 0
  else if n = ioStat then s.rawWrite ioStat ((v &&& 0xF8) ||| (s.rawRead ioStat &&& 0x07))
  else if n = ioLy then
    match s.params.lyWrite with
    | .reset => s.rawWrite ioLy 0
    | .ignore => s
  else if n = ioLyc then checkCoincidence (s.rawWrite ioLyc v)
  else if n = ioDma then dmaCopy (wordOf 0 v) 0xA0 (s.rawWrite ioDma v)
  else if regionOf s.params n = .cgbStub then s
  else s.rawWrite n v

/-- `MemWrite(a, 1, v)` (R72). -/
def busWrite (a : Word) (v : Byte) (s : State) : State :=
  let n := a.toNat
  match regionOf s.params n with
  | .romBank0 => mbcWrite n v s
  | .romSwitchable => mbcWrite n v s
  | .vram => s.rawWrite n v
  | .externalRam => if s.ramEnabled then s.ramWrite (s.ramOffset n) v else s
  | .workRam => s.rawWrite n v
  | .echoRam => s.rawWrite (n - 0x2000) v
  | .oam => s.rawWrite n v
  | .unusable => s
  | .joypad => s.rawWrite ioP1 ((v &&& 0xF0) ||| (s.rawRead ioP1 &&& 0x0F))
  | .cgbStub => registerWrite n v s
  | .plainIo => registerWrite n v s

/-- `MemWrite(a, 2, v)`: the low byte first (R8, R84, R85). -/
def busWrite16 (a : Word) (v : Word) (s : State) : State := busWrite (a + 1) (highByte v) (busWrite a (lowByte v) s)

/-! ### The stack (00_scope.md R8, R85) -/

/-- `Push16(v)`: the high byte first. -/
def push16 (v : Word) (s : State) : State :=
  let s1 := busWrite (s.sp - 1) (highByte v) { s with sp := s.sp - 1 }
  busWrite (s1.sp - 1) (lowByte v) { s1 with sp := s1.sp - 1 }

/-- The value that `Pop16()` returns: the low byte at SP, the high byte at SP + 1. -/
def popValue (s : State) : Word := wordOf (busRead s s.sp) (busRead s (s.sp + 1))

/-- What `Pop16()` does to the state. -/
def popped (s : State) : State := { s with sp := s.sp + 2 }

/-! ### Fetching and finishing an instruction -/

/-- PC after `n` bytes have been fetched (30_encoding.md R141). -/
def State.fetched (s : State) (n : Nat) : State := { s with pc := s.pc + BitVec.ofNat 16 n }

/-- An instruction that ran, with its cost (R11, R520). -/
def finish (n : Nat) (s : State) : Result := .next { s with cycles := n }

/-- The bytes at PC and the two after it, read through the bus (R109, R141). -/
def fetchBytes (s : State) : List Byte := [busRead s s.pc, busRead s (s.pc + 1), busRead s (s.pc + 2)]

/-! ### Taking an exception, and returning from one -/

/-- The fatal decode failure (60_exceptions.md R408, 44_system.md R356), from the state in which PC is the opcode's
address: the failure is latched, PC is left one past the opcode, and the step returns -1. -/
def raiseDecodeFault (op : Byte) (s : State) : State :=
  { s with fault := some ⟨op, s.pc⟩, pc := s.pc + 1, cycles := -1 }

/-- `Service(i)` (60_exceptions.md R405), with its cost added to the step's. -/
def serviceInterrupt (i : Nat) (s : State) : State :=
  let pushed := push16 s.pc s
  let masked := { pushed with ime := false, imePend := .noChange, imePendFresh := false }
  let cleared := masked.rawWrite ioIf (masked.rawRead ioIf &&& ~~~(1#8 <<< i))
  { cleared with pc := BitVec.ofNat 16 (0x40 + 8 * i), cycles := cleared.cycles + cleared.params.intServiceCycles }

/-- The return from an interrupt (43_control.md R330, 60_exceptions.md R406): PC is popped and IME set at once. -/
def returnFromInterrupt (s : State) : State := { popped s with pc := popValue s, ime := true }

end Sys2Proof.Machine
end

