-- ==== Sys2Proof/Machine/Operands.lean ====
section
/-! DEFINITION. Every operand form (30_encoding.md R142 to R148, 40_loads.md R200): the operand codes, and reading and
writing the operand each one names. -/

namespace Sys2Proof.Machine

open Sys2Proof

/-! ### Operand codes -/

/-- The 8-bit registers of `r8` (R144). -/
inductive Reg8 where
  | b
  | c
  | d
  | e
  | h
  | l
  | a
deriving DecidableEq, Repr

/-- `r8` with code 6, the memory byte at HL (R144, R148). -/
inductive Operand8 where
  | reg (r : Reg8)
  | memHl
deriving DecidableEq, Repr

/-- The second operand of the eight ALU operations (R250). -/
inductive AluSource where
  | reg (r : Reg8)
  | memHl
  | imm (n : Byte)
deriving DecidableEq, Repr

/-- `r16` (R145). -/
inductive Pair where
  | bc
  | de
  | hl
  | sp
deriving DecidableEq, Repr

/-- `r16stk` (R145). -/
inductive StackPair where
  | bc
  | de
  | hl
  | af
deriving DecidableEq, Repr

/-- `cc` (R146). -/
inductive Cond where
  | nz
  | z
  | nc
  | c
deriving DecidableEq, Repr

/-- The three-bit code of R144. -/
def Reg8.code : Reg8 → Nat
  | .b => 0
  | .c => 1
  | .d => 2
  | .e => 3
  | .h => 4
  | .l => 5
  | .a => 7

/-- The three-bit code of R144. -/
def Operand8.code : Operand8 → Nat
  | .reg r => r.code
  | .memHl => 6

/-- The two-bit code of R145. -/
def Pair.code : Pair → Nat
  | .bc => 0
  | .de => 1
  | .hl => 2
  | .sp => 3

/-- The two-bit code of R145. -/
def StackPair.code : StackPair → Nat
  | .bc => 0
  | .de => 1
  | .hl => 2
  | .af => 3

/-- The two-bit code of R146. -/
def Cond.code : Cond → Nat
  | .nz => 0
  | .z => 1
  | .nc => 2
  | .c => 3

/-- The operand that the code `z` names (R144). -/
def operand8OfCode : Nat → Operand8
  | 0 => .reg .b
  | 1 => .reg .c
  | 2 => .reg .d
  | 3 => .reg .e
  | 4 => .reg .h
  | 5 => .reg .l
  | 6 => .memHl
  | _ => .reg .a

/-! ### Registers and pairs (10_state.md R30) -/

/-- `x[r]`. -/
def State.reg (s : State) : Reg8 → Byte
  | .b => s.b
  | .c => s.c
  | .d => s.d
  | .e => s.e
  | .h => s.h
  | .l => s.l
  | .a => s.a

/-- `x[r] <- v`. -/
def State.setReg (s : State) (r : Reg8) (v : Byte) : State :=
  match r with
  | .b => { s with b := v }
  | .c => { s with c := v }
  | .d => { s with d := v }
  | .e => { s with e := v }
  | .h => { s with h := v }
  | .l => { s with l := v }
  | .a => { s with a := v }

/-- BC: the first letter is the high byte (R30). -/
def State.bc (s : State) : Word := wordOf s.c s.b

/-- DE. -/
def State.de (s : State) : Word := wordOf s.e s.d

/-- HL. -/
def State.hl (s : State) : Word := wordOf s.l s.h

/-- AF. -/
def State.af (s : State) : Word := wordOf s.f s.a

/-- Write HL: its two halves. -/
def State.setHl (s : State) (v : Word) : State := { s with h := highByte v, l := lowByte v }

/-- The value of an `r16` operand. -/
def State.pair (s : State) : Pair → Word
  | .bc => s.bc
  | .de => s.de
  | .hl => s.hl
  | .sp => s.sp

/-- Write an `r16` operand. -/
def State.setPair (s : State) (p : Pair) (v : Word) : State :=
  match p with
  | .bc => { s with b := highByte v, c := lowByte v }
  | .de => { s with d := highByte v, e := lowByte v }
  | .hl => s.setHl v
  | .sp => { s with sp := v }

/-- The value of an `r16stk` operand. -/
def State.stackPair (s : State) : StackPair → Word
  | .bc => s.bc
  | .de => s.de
  | .hl => s.hl
  | .af => s.af

/-- Write an `r16stk` operand; a write of F stores 0 in F[3:0] (R31, R225). -/
def State.setStackPair (s : State) (p : StackPair) (v : Word) : State :=
  match p with
  | .bc => { s with b := highByte v, c := lowByte v }
  | .de => { s with d := highByte v, e := lowByte v }
  | .hl => s.setHl v
  | .af => { s with a := highByte v, f := lowByte v &&& 0xF0 }

/-! ### Operand references (R148) -/

/-- `get()` of an `r8` operand. -/
def State.operand (s : State) : Operand8 → Byte
  | .reg r => s.reg r
  | .memHl => busRead s s.hl

/-- `set(v)` of an `r8` operand. -/
def State.setOperand (s : State) (o : Operand8) (v : Byte) : State :=
  match o with
  | .reg r => s.setReg r v
  | .memHl => busWrite s.hl v s

/-- A cost that depends on whether the operand is a register or `(HL)` (R157, R370). -/
def Operand8.cost (o : Operand8) (register memory : Nat) : Nat :=
  match o with
  | .reg _ => register
  | .memHl => memory

/-- The second operand of an ALU operation (R250). -/
def State.aluSource (s : State) : AluSource → Byte
  | .reg r => s.reg r
  | .memHl => busRead s s.hl
  | .imm n => n

/-- The length of an ALU instruction (R153, R250). -/
def AluSource.length : AluSource → Nat
  | .reg _ => 1
  | .memHl => 1
  | .imm _ => 2

/-- The cost of an ALU instruction (R250). -/
def AluSource.cost : AluSource → Nat
  | .reg _ => 4
  | .memHl => 8
  | .imm _ => 8

/-- The address `0xFF00 + n` of the high-page forms (R142, R200). -/
def highPage (n : Byte) : Word := wordOf n 0xFF

end Sys2Proof.Machine
end

