-- ==== Sys2Proof/Machine/Flags.lean ====
section
/-! DEFINITION. The flag byte (10_state.md R31) and every computation of a result with its flags (files 41, 42 and 45).
The computations are on exact naturals, narrowed at the end (00_scope.md R7). -/

namespace Sys2Proof.Machine

open Sys2Proof

/-- The byte F with the given flags; F[3:0] is 0 (R31). -/
def packFlags (z n h c : Bool) : Byte :=
  (if z then 0x80 else 0) ||| (if n then 0x40 else 0) ||| (if h then 0x20 else 0) ||| (if c then 0x10 else 0)

/-- Z. -/
def State.flagZ (s : State) : Bool := s.f.getLsbD 7

/-- N. -/
def State.flagN (s : State) : Bool := s.f.getLsbD 6

/-- H. -/
def State.flagH (s : State) : Bool := s.f.getLsbD 5

/-- C. -/
def State.flagC (s : State) : Bool := s.f.getLsbD 4

/-- `cond(cc)` (30_encoding.md R146). -/
def State.cond (s : State) : Cond → Bool
  | .nz => !s.flagZ
  | .z => s.flagZ
  | .nc => !s.flagC
  | .c => s.flagC

/-- A result byte and the flag byte that goes with it. -/
structure AluResult where
  value : Byte
  flags : Byte
deriving DecidableEq, Repr

/-! ### The eight ALU operations (R250 to R258) -/

/-- The ALU operations, in the order of their index `y` (R250). -/
inductive AluOp where
  | add
  | adc
  | sub
  | sbc
  | and
  | xor
  | or
  | cp
deriving DecidableEq, Repr

/-- The index `y` of R250. -/
def AluOp.code : AluOp → Nat
  | .add => 0
  | .adc => 1
  | .sub => 2
  | .sbc => 3
  | .and => 4
  | .xor => 5
  | .or => 6
  | .cp => 7

/-- The sum of two bytes and a carry-in with its flags (R251, R252). -/
def addBytes (a b : Byte) (cin : Bool) : AluResult :=
  let r := a.toNat + b.toNat + cin.toNat
  { value := BitVec.ofNat 8 r
    flags := packFlags (r % 256 == 0) false (decide (a.toNat % 16 + b.toNat % 16 + cin.toNat > 15)) (decide (r > 255)) }

/-- The difference of two bytes and a borrow-in with its flags (R253, R254), under `SUB_HALF_CARRY`. -/
def subBytes (mode : SubHalfCarry) (a b : Byte) (bin : Bool) : AluResult :=
  let r := a - b - (BitVec.ofBool bin).setWidth 8
  let half := match mode with
    | .standard => decide (a.toNat % 16 < b.toNat % 16 + bin.toNat)
    | .sourceBug => false
  { value := r, flags := packFlags (r == 0) true half (decide (b.toNat + bin.toNat > a.toNat)) }

/-- The result and flags of an ALU operation on A and an operand (R251 to R258). -/
def aluCompute (op : AluOp) (mode : SubHalfCarry) (a b : Byte) (cin : Bool) : AluResult :=
  match op with
  | .add => addBytes a b false
  | .adc => addBytes a b cin
  | .sub => subBytes mode a b false
  | .sbc => subBytes mode a b cin
  | .and => { value := a &&& b, flags := packFlags (a &&& b == 0) false true false }
  | .xor => { value := a ^^^ b, flags := packFlags (a ^^^ b == 0) false false false }
  | .or => { value := a ||| b, flags := packFlags (a ||| b == 0) false false false }
  | .cp => { value := a, flags := (subBytes mode a b false).flags }

/-! ### INC, DEC and DAA (R259 to R263) -/

/-- INC of a byte; C is kept (R259, R260). -/
def incByte (v : Byte) (c : Bool) : AluResult :=
  { value := v + 1, flags := packFlags (v + 1 == 0) false (v &&& 0x0F == 0x0F) c }

/-- DEC of a byte; C is kept (R261, R262). -/
def decByte (v : Byte) (c : Bool) : AluResult :=
  { value := v - 1, flags := packFlags (v - 1 == 0) true (v &&& 0x0F == 0) c }

/-- DAA on exact naturals (R263). -/
def daaByte (a : Byte) (n h c : Bool) : AluResult :=
  if n then
    let a1 := if h then a - 0x06 else a
    let a2 := if c then a1 - 0x60 else a1
    { value := a2, flags := packFlags (a2 == 0) true false c }
  else
    let a1 := if h || decide (a.toNat % 16 > 9) then a.toNat + 0x06 else a.toNat
    let a2 := if c || decide (a1 > 0x9F) then a1 + 0x60 else a1
    { value := BitVec.ofNat 8 a2, flags := packFlags (a2 % 256 == 0) false false (c || decide (a2 > 255)) }

/-! ### Rotates and shifts (R267 to R270, R371 to R378) -/

/-- The rotate, shift and swap group, in the order of its selector `y` (30_encoding.md R151). -/
inductive ShiftOp where
  | rlc
  | rrc
  | rl
  | rr
  | sla
  | sra
  | swap
  | srl
deriving DecidableEq, Repr

/-- The selector `y` of R151. -/
def ShiftOp.code : ShiftOp → Nat
  | .rlc => 0
  | .rrc => 1
  | .rl => 2
  | .rr => 3
  | .sla => 4
  | .sra => 5
  | .swap => 6
  | .srl => 7

/-- A flag as bit 0 of a byte. -/
def bit0 (c : Bool) : Byte := if c then 0x01 else 0

/-- A flag as bit 7 of a byte. -/
def bit7 (c : Bool) : Byte := if c then 0x80 else 0

/-- The result byte (R371 to R378). -/
def shiftValue (op : ShiftOp) (v : Byte) (cin : Bool) : Byte :=
  match op with
  | .rlc => (v <<< 1) ||| bit0 (v.getLsbD 7)
  | .rrc => (v >>> 1) ||| bit7 (v.getLsbD 0)
  | .rl => (v <<< 1) ||| bit0 cin
  | .rr => (v >>> 1) ||| bit7 cin
  | .sla => v <<< 1
  | .sra => (v >>> 1) ||| (v &&& 0x80)
  | .swap => ((v &&& 0x0F) <<< 4) ||| (v >>> 4)
  | .srl => v >>> 1

/-- The bit shifted out; SWAP clears C (R370). -/
def shiftCarry (op : ShiftOp) (v : Byte) : Bool :=
  match op with
  | .rlc => v.getLsbD 7
  | .rrc => v.getLsbD 0
  | .rl => v.getLsbD 7
  | .rr => v.getLsbD 0
  | .sla => v.getLsbD 7
  | .sra => v.getLsbD 0
  | .swap => false
  | .srl => v.getLsbD 0

/-- The result and flags of the secondary group (R370): Z from the result, N = 0, H = 0. -/
def shiftByte (op : ShiftOp) (v : Byte) (cin : Bool) : AluResult :=
  let r := shiftValue op v cin
  { value := r, flags := packFlags (r == 0) false false (shiftCarry op v) }

/-- The result and flags of the accumulator rotates (R267 to R270): Z is always 0. -/
def rotateAccumulator (op : ShiftOp) (v : Byte) (cin : Bool) : AluResult :=
  { value := shiftValue op v cin, flags := packFlags false false false (shiftCarry op v) }

/-! ### 16-bit flags (R300, R303, R304) -/

/-- The flags of `ADD HL,rr`; Z is kept (R300). -/
def addHlFlags (h v : Word) (z : Bool) : Byte :=
  packFlags z false (decide (h.toNat % 4096 + v.toNat % 4096 > 4095)) (decide (h.toNat + v.toNat > 65535))

/-- The flags of `ADD SP,e8` and `LD HL,SP+e8`: from the low byte of SP and the unsigned displacement (R303). -/
def spOffsetFlags (sp : Word) (e : Byte) : Byte :=
  packFlags false false (decide (sp.toNat % 16 + e.toNat % 16 > 15)) (decide (sp.toNat % 256 + e.toNat > 255))

end Sys2Proof.Machine
end

