-- ==== Sys2Proof/Machine/Alu16.lean ====
section
/-! DEFINITION. 16-bit arithmetic (42_alu16.md R300 to R304). -/

namespace Sys2Proof.Machine

open Sys2Proof

/-! ### The shared shapes -/

/-- `ADD HL,rr` (R300): both operands are read before HL is written. -/
def addHlPair (p : Pair) (s : State) : Result :=
  let s := s.fetched 1
  finish 8 { s.setHl (s.hl + s.pair p) with f := addHlFlags s.hl (s.pair p) s.flagZ }

/-- `INC rr` (R301). -/
def incPair (p : Pair) (s : State) : Result :=
  let s := s.fetched 1
  finish 8 (s.setPair p (s.pair p + 1))

/-- `DEC rr` (R302). -/
def decPair (p : Pair) (s : State) : Result :=
  let s := s.fetched 1
  finish 8 (s.setPair p (s.pair p - 1))

/-! ### The instructions -/

/-- `ADD SP,e8`, 0xE8 (R303). -/
def execAddSpE8 (e : Byte) (s : State) : Result :=
  let s := s.fetched 2
  finish 16 { s with sp := s.sp + sext8 e, f := spOffsetFlags s.sp e }

/-- `LD HL,SP+e8`, 0xF8 (R304). -/
def execLdHlSpE8 (e : Byte) (s : State) : Result :=
  let s := s.fetched 2
  finish 12 { s.setHl (s.sp + sext8 e) with f := spOffsetFlags s.sp e }

/-- `INC BC`, 0x03 (R301). -/
def execIncBc (s : State) : Result := incPair .bc s

/-- `ADD HL,BC`, 0x09 (R300). -/
def execAddHlBc (s : State) : Result := addHlPair .bc s

/-- `DEC BC`, 0x0B (R302). -/
def execDecBc (s : State) : Result := decPair .bc s

/-- `INC DE`, 0x13 (R301). -/
def execIncDe (s : State) : Result := incPair .de s

/-- `ADD HL,DE`, 0x19 (R300). -/
def execAddHlDe (s : State) : Result := addHlPair .de s

/-- `DEC DE`, 0x1B (R302). -/
def execDecDe (s : State) : Result := decPair .de s

/-- `INC HL`, 0x23 (R301). -/
def execIncHl (s : State) : Result := incPair .hl s

/-- `ADD HL,HL`, 0x29 (R300). -/
def execAddHlHl (s : State) : Result := addHlPair .hl s

/-- `DEC HL`, 0x2B (R302). -/
def execDecHl (s : State) : Result := decPair .hl s

/-- `INC SP`, 0x33 (R301). -/
def execIncSp (s : State) : Result := incPair .sp s

/-- `ADD HL,SP`, 0x39 (R300). -/
def execAddHlSp (s : State) : Result := addHlPair .sp s

/-- `DEC SP`, 0x3B (R302). -/
def execDecSp (s : State) : Result := decPair .sp s

end Sys2Proof.Machine
end

