-- ==== Sys2Proof/Machine/Alu8.lean ====
section
/-! DEFINITION. 8-bit arithmetic, logic and the accumulator and flag instructions (41_alu8.md R250 to R270). -/

namespace Sys2Proof.Machine

open Sys2Proof

/-! ### The shared shapes -/

/-- The eight ALU operations on A and a register, `(HL)` or an immediate (R250 to R258). -/
def aluWith (op : AluOp) (src : AluSource) (s : State) : Result :=
  let s := s.fetched src.length
  let r := aluCompute op s.params.subHalfCarry s.a (s.aluSource src) s.flagC
  finish src.cost { s with a := r.value, f := r.flags }

/-- `INC r` (R259). -/
def incReg (r : Reg8) (s : State) : Result :=
  let s := s.fetched 1
  let v := incByte (s.reg r) s.flagC
  finish 4 { s.setReg r v.value with f := v.flags }

/-- `DEC r` (R261). -/
def decReg (r : Reg8) (s : State) : Result :=
  let s := s.fetched 1
  let v := decByte (s.reg r) s.flagC
  finish 4 { s.setReg r v.value with f := v.flags }

/-- The four accumulator rotates (R267 to R270). -/
def rotateA (op : ShiftOp) (s : State) : Result :=
  let s := s.fetched 1
  let r := rotateAccumulator op s.a s.flagC
  finish 4 { s with a := r.value, f := r.flags }

/-! ### The instructions -/

/-- `INC (HL)`, 0x34 (R260). -/
def execIncMemHl (s : State) : Result :=
  let s := s.fetched 1
  let v := incByte (busRead s s.hl) s.flagC
  finish 12 { busWrite s.hl v.value s with f := v.flags }

/-- `DEC (HL)`, 0x35 (R262). -/
def execDecMemHl (s : State) : Result :=
  let s := s.fetched 1
  let v := decByte (busRead s s.hl) s.flagC
  finish 12 { busWrite s.hl v.value s with f := v.flags }

/-- `DAA`, 0x27 (R263). -/
def execDaa (s : State) : Result :=
  let s := s.fetched 1
  let r := daaByte s.a s.flagN s.flagH s.flagC
  finish 4 { s with a := r.value, f := r.flags }

/-- `CPL`, 0x2F (R264). -/
def execCpl (s : State) : Result :=
  let s := s.fetched 1
  finish 4 { s with a := s.a ^^^ 0xFF, f := packFlags s.flagZ true true s.flagC }

/-- `SCF`, 0x37 (R265). -/
def execScf (s : State) : Result :=
  let s := s.fetched 1
  finish 4 { s with f := packFlags s.flagZ false false true }

/-- `CCF`, 0x3F (R266). -/
def execCcf (s : State) : Result :=
  let s := s.fetched 1
  finish 4 { s with f := packFlags s.flagZ false false (!s.flagC) }

/-- `RLCA`, 0x07 (R267). -/
def execRlca (s : State) : Result := rotateA .rlc s

/-- `RLA`, 0x17 (R268). -/
def execRla (s : State) : Result := rotateA .rl s

/-- `RRCA`, 0x0F (R269). -/
def execRrca (s : State) : Result := rotateA .rrc s

/-- `RRA`, 0x1F (R270). -/
def execRra (s : State) : Result := rotateA .rr s

/-- `INC B`, 0x04 (R259). -/
def execIncB (s : State) : Result := incReg .b s

/-- `DEC B`, 0x05 (R261). -/
def execDecB (s : State) : Result := decReg .b s

/-- `INC C`, 0x0C (R259). -/
def execIncC (s : State) : Result := incReg .c s

/-- `DEC C`, 0x0D (R261). -/
def execDecC (s : State) : Result := decReg .c s

/-- `INC D`, 0x14 (R259). -/
def execIncD (s : State) : Result := incReg .d s

/-- `DEC D`, 0x15 (R261). -/
def execDecD (s : State) : Result := decReg .d s

/-- `INC E`, 0x1C (R259). -/
def execIncE (s : State) : Result := incReg .e s

/-- `DEC E`, 0x1D (R261). -/
def execDecE (s : State) : Result := decReg .e s

/-- `INC H`, 0x24 (R259). -/
def execIncH (s : State) : Result := incReg .h s

/-- `DEC H`, 0x25 (R261). -/
def execDecH (s : State) : Result := decReg .h s

/-- `INC L`, 0x2C (R259). -/
def execIncL (s : State) : Result := incReg .l s

/-- `DEC L`, 0x2D (R261). -/
def execDecL (s : State) : Result := decReg .l s

/-- `INC A`, 0x3C (R259). -/
def execIncA (s : State) : Result := incReg .a s

/-- `DEC A`, 0x3D (R261). -/
def execDecA (s : State) : Result := decReg .a s

/-- `ADD A,B`, 0x80 (R251). -/
def execAddAB (s : State) : Result := aluWith .add (.reg .b) s

/-- `ADD A,C`, 0x81 (R251). -/
def execAddAC (s : State) : Result := aluWith .add (.reg .c) s

/-- `ADD A,D`, 0x82 (R251). -/
def execAddAD (s : State) : Result := aluWith .add (.reg .d) s

/-- `ADD A,E`, 0x83 (R251). -/
def execAddAE (s : State) : Result := aluWith .add (.reg .e) s

/-- `ADD A,H`, 0x84 (R251). -/
def execAddAH (s : State) : Result := aluWith .add (.reg .h) s

/-- `ADD A,L`, 0x85 (R251). -/
def execAddAL (s : State) : Result := aluWith .add (.reg .l) s

/-- `ADD A,(HL)`, 0x86 (R251). -/
def execAddAMemHl (s : State) : Result := aluWith .add .memHl s

/-- `ADD A,A`, 0x87 (R251). -/
def execAddAA (s : State) : Result := aluWith .add (.reg .a) s

/-- `ADC A,B`, 0x88 (R252). -/
def execAdcAB (s : State) : Result := aluWith .adc (.reg .b) s

/-- `ADC A,C`, 0x89 (R252). -/
def execAdcAC (s : State) : Result := aluWith .adc (.reg .c) s

/-- `ADC A,D`, 0x8A (R252). -/
def execAdcAD (s : State) : Result := aluWith .adc (.reg .d) s

/-- `ADC A,E`, 0x8B (R252). -/
def execAdcAE (s : State) : Result := aluWith .adc (.reg .e) s

/-- `ADC A,H`, 0x8C (R252). -/
def execAdcAH (s : State) : Result := aluWith .adc (.reg .h) s

/-- `ADC A,L`, 0x8D (R252). -/
def execAdcAL (s : State) : Result := aluWith .adc (.reg .l) s

/-- `ADC A,(HL)`, 0x8E (R252). -/
def execAdcAMemHl (s : State) : Result := aluWith .adc .memHl s

/-- `ADC A,A`, 0x8F (R252). -/
def execAdcAA (s : State) : Result := aluWith .adc (.reg .a) s

/-- `SUB B`, 0x90 (R253). -/
def execSubB (s : State) : Result := aluWith .sub (.reg .b) s

/-- `SUB C`, 0x91 (R253). -/
def execSubC (s : State) : Result := aluWith .sub (.reg .c) s

/-- `SUB D`, 0x92 (R253). -/
def execSubD (s : State) : Result := aluWith .sub (.reg .d) s

/-- `SUB E`, 0x93 (R253). -/
def execSubE (s : State) : Result := aluWith .sub (.reg .e) s

/-- `SUB H`, 0x94 (R253). -/
def execSubH (s : State) : Result := aluWith .sub (.reg .h) s

/-- `SUB L`, 0x95 (R253). -/
def execSubL (s : State) : Result := aluWith .sub (.reg .l) s

/-- `SUB (HL)`, 0x96 (R253). -/
def execSubMemHl (s : State) : Result := aluWith .sub .memHl s

/-- `SUB A`, 0x97 (R253). -/
def execSubA (s : State) : Result := aluWith .sub (.reg .a) s

/-- `SBC A,B`, 0x98 (R254). -/
def execSbcAB (s : State) : Result := aluWith .sbc (.reg .b) s

/-- `SBC A,C`, 0x99 (R254). -/
def execSbcAC (s : State) : Result := aluWith .sbc (.reg .c) s

/-- `SBC A,D`, 0x9A (R254). -/
def execSbcAD (s : State) : Result := aluWith .sbc (.reg .d) s

/-- `SBC A,E`, 0x9B (R254). -/
def execSbcAE (s : State) : Result := aluWith .sbc (.reg .e) s

/-- `SBC A,H`, 0x9C (R254). -/
def execSbcAH (s : State) : Result := aluWith .sbc (.reg .h) s

/-- `SBC A,L`, 0x9D (R254). -/
def execSbcAL (s : State) : Result := aluWith .sbc (.reg .l) s

/-- `SBC A,(HL)`, 0x9E (R254). -/
def execSbcAMemHl (s : State) : Result := aluWith .sbc .memHl s

/-- `SBC A,A`, 0x9F (R254). -/
def execSbcAA (s : State) : Result := aluWith .sbc (.reg .a) s

/-- `AND B`, 0xA0 (R255). -/
def execAndB (s : State) : Result := aluWith .and (.reg .b) s

/-- `AND C`, 0xA1 (R255). -/
def execAndC (s : State) : Result := aluWith .and (.reg .c) s

/-- `AND D`, 0xA2 (R255). -/
def execAndD (s : State) : Result := aluWith .and (.reg .d) s

/-- `AND E`, 0xA3 (R255). -/
def execAndE (s : State) : Result := aluWith .and (.reg .e) s

/-- `AND H`, 0xA4 (R255). -/
def execAndH (s : State) : Result := aluWith .and (.reg .h) s

/-- `AND L`, 0xA5 (R255). -/
def execAndL (s : State) : Result := aluWith .and (.reg .l) s

/-- `AND (HL)`, 0xA6 (R255). -/
def execAndMemHl (s : State) : Result := aluWith .and .memHl s

/-- `AND A`, 0xA7 (R255). -/
def execAndA (s : State) : Result := aluWith .and (.reg .a) s

/-- `XOR B`, 0xA8 (R256). -/
def execXorB (s : State) : Result := aluWith .xor (.reg .b) s

/-- `XOR C`, 0xA9 (R256). -/
def execXorC (s : State) : Result := aluWith .xor (.reg .c) s

/-- `XOR D`, 0xAA (R256). -/
def execXorD (s : State) : Result := aluWith .xor (.reg .d) s

/-- `XOR E`, 0xAB (R256). -/
def execXorE (s : State) : Result := aluWith .xor (.reg .e) s

/-- `XOR H`, 0xAC (R256). -/
def execXorH (s : State) : Result := aluWith .xor (.reg .h) s

/-- `XOR L`, 0xAD (R256). -/
def execXorL (s : State) : Result := aluWith .xor (.reg .l) s

/-- `XOR (HL)`, 0xAE (R256). -/
def execXorMemHl (s : State) : Result := aluWith .xor .memHl s

/-- `XOR A`, 0xAF (R256). -/
def execXorA (s : State) : Result := aluWith .xor (.reg .a) s

/-- `OR B`, 0xB0 (R257). -/
def execOrB (s : State) : Result := aluWith .or (.reg .b) s

/-- `OR C`, 0xB1 (R257). -/
def execOrC (s : State) : Result := aluWith .or (.reg .c) s

/-- `OR D`, 0xB2 (R257). -/
def execOrD (s : State) : Result := aluWith .or (.reg .d) s

/-- `OR E`, 0xB3 (R257). -/
def execOrE (s : State) : Result := aluWith .or (.reg .e) s

/-- `OR H`, 0xB4 (R257). -/
def execOrH (s : State) : Result := aluWith .or (.reg .h) s

/-- `OR L`, 0xB5 (R257). -/
def execOrL (s : State) : Result := aluWith .or (.reg .l) s

/-- `OR (HL)`, 0xB6 (R257). -/
def execOrMemHl (s : State) : Result := aluWith .or .memHl s

/-- `OR A`, 0xB7 (R257). -/
def execOrA (s : State) : Result := aluWith .or (.reg .a) s

/-- `CP B`, 0xB8 (R258). -/
def execCpB (s : State) : Result := aluWith .cp (.reg .b) s

/-- `CP C`, 0xB9 (R258). -/
def execCpC (s : State) : Result := aluWith .cp (.reg .c) s

/-- `CP D`, 0xBA (R258). -/
def execCpD (s : State) : Result := aluWith .cp (.reg .d) s

/-- `CP E`, 0xBB (R258). -/
def execCpE (s : State) : Result := aluWith .cp (.reg .e) s

/-- `CP H`, 0xBC (R258). -/
def execCpH (s : State) : Result := aluWith .cp (.reg .h) s

/-- `CP L`, 0xBD (R258). -/
def execCpL (s : State) : Result := aluWith .cp (.reg .l) s

/-- `CP (HL)`, 0xBE (R258). -/
def execCpMemHl (s : State) : Result := aluWith .cp .memHl s

/-- `CP A`, 0xBF (R258). -/
def execCpA (s : State) : Result := aluWith .cp (.reg .a) s

/-- `ADD A,d8`, 0xC6 (R251). -/
def execAddAD8 (n : Byte) (s : State) : Result := aluWith .add (.imm n) s

/-- `ADC A,d8`, 0xCE (R252). -/
def execAdcAD8 (n : Byte) (s : State) : Result := aluWith .adc (.imm n) s

/-- `SUB d8`, 0xD6 (R253). -/
def execSubD8 (n : Byte) (s : State) : Result := aluWith .sub (.imm n) s

/-- `SBC A,d8`, 0xDE (R254). -/
def execSbcAD8 (n : Byte) (s : State) : Result := aluWith .sbc (.imm n) s

/-- `AND d8`, 0xE6 (R255). -/
def execAndD8 (n : Byte) (s : State) : Result := aluWith .and (.imm n) s

/-- `XOR d8`, 0xEE (R256). -/
def execXorD8 (n : Byte) (s : State) : Result := aluWith .xor (.imm n) s

/-- `OR d8`, 0xF6 (R257). -/
def execOrD8 (n : Byte) (s : State) : Result := aluWith .or (.imm n) s

/-- `CP d8`, 0xFE (R258). -/
def execCpD8 (n : Byte) (s : State) : Result := aluWith .cp (.imm n) s

end Sys2Proof.Machine
end

