-- ==== Sys2Proof/Machine/Cb.lean ====
section
/-! DEFINITION. The secondary instructions (45_cb.md R370 to R381) and PREFIX CB (44_system.md R355). -/

namespace Sys2Proof.Machine

open Sys2Proof

/-! ### The shared shapes -/

/-- The rotates, shifts and SWAP (R370 to R378): the result is written back, also to memory. -/
def cbShift (op : ShiftOp) (o : Operand8) (s : State) : Result :=
  let s := s.fetched 2
  let r := shiftByte op (s.operand o) s.flagC
  finish (o.cost 8 16) { s.setOperand o r.value with f := r.flags }

/-- `BIT b,s` (R379): the operand is not written and C is kept. -/
def cbBit (b : Nat) (o : Operand8) (s : State) : Result :=
  let s := s.fetched 2
  finish (o.cost 8 12) { s with f := packFlags (!(s.operand o).getLsbD b) false true s.flagC }

/-- `RES b,s` (R380). -/
def cbRes (b : Nat) (o : Operand8) (s : State) : Result :=
  let s := s.fetched 2
  finish (o.cost 8 16) (s.setOperand o (s.operand o &&& ~~~(1#8 <<< b)))

/-- `SET b,s` (R381). -/
def cbSet (b : Nat) (o : Operand8) (s : State) : Result :=
  let s := s.fetched 2
  finish (o.cost 8 16) (s.setOperand o (s.operand o ||| (1#8 <<< b)))

/-- The shift group's member with selector `y` (30_encoding.md R151). -/
def shiftOfCode : Nat → ShiftOp
  | 0 => .rlc
  | 1 => .rrc
  | 2 => .rl
  | 3 => .rr
  | 4 => .sla
  | 5 => .sra
  | 6 => .swap
  | _ => .srl

/-! ### The instructions -/

/-- `PREFIX CB`, 0xCB and the secondary opcode (44_system.md R355): the rule that the fields of the secondary opcode select
(R151, R370). -/
def execPrefixCb (c : Byte) (s : State) : Result :=
  let o := operand8OfCode (fieldZ c)
  match fieldX c with
  | 0 => cbShift (shiftOfCode (fieldY c)) o s
  | 1 => cbBit (fieldY c) o s
  | 2 => cbRes (fieldY c) o s
  | _ => cbSet (fieldY c) o s

/-- `RLC B`, 0xCB 0x00 (R371). -/
def execRlcB (s : State) : Result := cbShift .rlc (.reg .b) s

/-- `RLC C`, 0xCB 0x01 (R371). -/
def execRlcC (s : State) : Result := cbShift .rlc (.reg .c) s

/-- `RLC D`, 0xCB 0x02 (R371). -/
def execRlcD (s : State) : Result := cbShift .rlc (.reg .d) s

/-- `RLC E`, 0xCB 0x03 (R371). -/
def execRlcE (s : State) : Result := cbShift .rlc (.reg .e) s

/-- `RLC H`, 0xCB 0x04 (R371). -/
def execRlcH (s : State) : Result := cbShift .rlc (.reg .h) s

/-- `RLC L`, 0xCB 0x05 (R371). -/
def execRlcL (s : State) : Result := cbShift .rlc (.reg .l) s

/-- `RLC (HL)`, 0xCB 0x06 (R371). -/
def execRlcMemHl (s : State) : Result := cbShift .rlc .memHl s

/-- `RLC A`, 0xCB 0x07 (R371). -/
def execRlcA (s : State) : Result := cbShift .rlc (.reg .a) s

/-- `RRC B`, 0xCB 0x08 (R372). -/
def execRrcB (s : State) : Result := cbShift .rrc (.reg .b) s

/-- `RRC C`, 0xCB 0x09 (R372). -/
def execRrcC (s : State) : Result := cbShift .rrc (.reg .c) s

/-- `RRC D`, 0xCB 0x0A (R372). -/
def execRrcD (s : State) : Result := cbShift .rrc (.reg .d) s

/-- `RRC E`, 0xCB 0x0B (R372). -/
def execRrcE (s : State) : Result := cbShift .rrc (.reg .e) s

/-- `RRC H`, 0xCB 0x0C (R372). -/
def execRrcH (s : State) : Result := cbShift .rrc (.reg .h) s

/-- `RRC L`, 0xCB 0x0D (R372). -/
def execRrcL (s : State) : Result := cbShift .rrc (.reg .l) s

/-- `RRC (HL)`, 0xCB 0x0E (R372). -/
def execRrcMemHl (s : State) : Result := cbShift .rrc .memHl s

/-- `RRC A`, 0xCB 0x0F (R372). -/
def execRrcA (s : State) : Result := cbShift .rrc (.reg .a) s

/-- `RL B`, 0xCB 0x10 (R373). -/
def execRlB (s : State) : Result := cbShift .rl (.reg .b) s

/-- `RL C`, 0xCB 0x11 (R373). -/
def execRlC (s : State) : Result := cbShift .rl (.reg .c) s

/-- `RL D`, 0xCB 0x12 (R373). -/
def execRlD (s : State) : Result := cbShift .rl (.reg .d) s

/-- `RL E`, 0xCB 0x13 (R373). -/
def execRlE (s : State) : Result := cbShift .rl (.reg .e) s

/-- `RL H`, 0xCB 0x14 (R373). -/
def execRlH (s : State) : Result := cbShift .rl (.reg .h) s

/-- `RL L`, 0xCB 0x15 (R373). -/
def execRlL (s : State) : Result := cbShift .rl (.reg .l) s

/-- `RL (HL)`, 0xCB 0x16 (R373). -/
def execRlMemHl (s : State) : Result := cbShift .rl .memHl s

/-- `RL A`, 0xCB 0x17 (R373). -/
def execRlA (s : State) : Result := cbShift .rl (.reg .a) s

/-- `RR B`, 0xCB 0x18 (R374). -/
def execRrB (s : State) : Result := cbShift .rr (.reg .b) s

/-- `RR C`, 0xCB 0x19 (R374). -/
def execRrC (s : State) : Result := cbShift .rr (.reg .c) s

/-- `RR D`, 0xCB 0x1A (R374). -/
def execRrD (s : State) : Result := cbShift .rr (.reg .d) s

/-- `RR E`, 0xCB 0x1B (R374). -/
def execRrE (s : State) : Result := cbShift .rr (.reg .e) s

/-- `RR H`, 0xCB 0x1C (R374). -/
def execRrH (s : State) : Result := cbShift .rr (.reg .h) s

/-- `RR L`, 0xCB 0x1D (R374). -/
def execRrL (s : State) : Result := cbShift .rr (.reg .l) s

/-- `RR (HL)`, 0xCB 0x1E (R374). -/
def execRrMemHl (s : State) : Result := cbShift .rr .memHl s

/-- `RR A`, 0xCB 0x1F (R374). -/
def execRrA (s : State) : Result := cbShift .rr (.reg .a) s

/-- `SLA B`, 0xCB 0x20 (R375). -/
def execSlaB (s : State) : Result := cbShift .sla (.reg .b) s

/-- `SLA C`, 0xCB 0x21 (R375). -/
def execSlaC (s : State) : Result := cbShift .sla (.reg .c) s

/-- `SLA D`, 0xCB 0x22 (R375). -/
def execSlaD (s : State) : Result := cbShift .sla (.reg .d) s

/-- `SLA E`, 0xCB 0x23 (R375). -/
def execSlaE (s : State) : Result := cbShift .sla (.reg .e) s

/-- `SLA H`, 0xCB 0x24 (R375). -/
def execSlaH (s : State) : Result := cbShift .sla (.reg .h) s

/-- `SLA L`, 0xCB 0x25 (R375). -/
def execSlaL (s : State) : Result := cbShift .sla (.reg .l) s

/-- `SLA (HL)`, 0xCB 0x26 (R375). -/
def execSlaMemHl (s : State) : Result := cbShift .sla .memHl s

/-- `SLA A`, 0xCB 0x27 (R375). -/
def execSlaA (s : State) : Result := cbShift .sla (.reg .a) s

/-- `SRA B`, 0xCB 0x28 (R376). -/
def execSraB (s : State) : Result := cbShift .sra (.reg .b) s

/-- `SRA C`, 0xCB 0x29 (R376). -/
def execSraC (s : State) : Result := cbShift .sra (.reg .c) s

/-- `SRA D`, 0xCB 0x2A (R376). -/
def execSraD (s : State) : Result := cbShift .sra (.reg .d) s

/-- `SRA E`, 0xCB 0x2B (R376). -/
def execSraE (s : State) : Result := cbShift .sra (.reg .e) s

/-- `SRA H`, 0xCB 0x2C (R376). -/
def execSraH (s : State) : Result := cbShift .sra (.reg .h) s

/-- `SRA L`, 0xCB 0x2D (R376). -/
def execSraL (s : State) : Result := cbShift .sra (.reg .l) s

/-- `SRA (HL)`, 0xCB 0x2E (R376). -/
def execSraMemHl (s : State) : Result := cbShift .sra .memHl s

/-- `SRA A`, 0xCB 0x2F (R376). -/
def execSraA (s : State) : Result := cbShift .sra (.reg .a) s

/-- `SWAP B`, 0xCB 0x30 (R377). -/
def execSwapB (s : State) : Result := cbShift .swap (.reg .b) s

/-- `SWAP C`, 0xCB 0x31 (R377). -/
def execSwapC (s : State) : Result := cbShift .swap (.reg .c) s

/-- `SWAP D`, 0xCB 0x32 (R377). -/
def execSwapD (s : State) : Result := cbShift .swap (.reg .d) s

/-- `SWAP E`, 0xCB 0x33 (R377). -/
def execSwapE (s : State) : Result := cbShift .swap (.reg .e) s

/-- `SWAP H`, 0xCB 0x34 (R377). -/
def execSwapH (s : State) : Result := cbShift .swap (.reg .h) s

/-- `SWAP L`, 0xCB 0x35 (R377). -/
def execSwapL (s : State) : Result := cbShift .swap (.reg .l) s

/-- `SWAP (HL)`, 0xCB 0x36 (R377). -/
def execSwapMemHl (s : State) : Result := cbShift .swap .memHl s

/-- `SWAP A`, 0xCB 0x37 (R377). -/
def execSwapA (s : State) : Result := cbShift .swap (.reg .a) s

/-- `SRL B`, 0xCB 0x38 (R378). -/
def execSrlB (s : State) : Result := cbShift .srl (.reg .b) s

/-- `SRL C`, 0xCB 0x39 (R378). -/
def execSrlC (s : State) : Result := cbShift .srl (.reg .c) s

/-- `SRL D`, 0xCB 0x3A (R378). -/
def execSrlD (s : State) : Result := cbShift .srl (.reg .d) s

/-- `SRL E`, 0xCB 0x3B (R378). -/
def execSrlE (s : State) : Result := cbShift .srl (.reg .e) s

/-- `SRL H`, 0xCB 0x3C (R378). -/
def execSrlH (s : State) : Result := cbShift .srl (.reg .h) s

/-- `SRL L`, 0xCB 0x3D (R378). -/
def execSrlL (s : State) : Result := cbShift .srl (.reg .l) s

/-- `SRL (HL)`, 0xCB 0x3E (R378). -/
def execSrlMemHl (s : State) : Result := cbShift .srl .memHl s

/-- `SRL A`, 0xCB 0x3F (R378). -/
def execSrlA (s : State) : Result := cbShift .srl (.reg .a) s

/-- `BIT 0,B`, 0xCB 0x40 (R379). -/
def execBit0B (s : State) : Result := cbBit 0 (.reg .b) s

/-- `BIT 0,C`, 0xCB 0x41 (R379). -/
def execBit0C (s : State) : Result := cbBit 0 (.reg .c) s

/-- `BIT 0,D`, 0xCB 0x42 (R379). -/
def execBit0D (s : State) : Result := cbBit 0 (.reg .d) s

/-- `BIT 0,E`, 0xCB 0x43 (R379). -/
def execBit0E (s : State) : Result := cbBit 0 (.reg .e) s

/-- `BIT 0,H`, 0xCB 0x44 (R379). -/
def execBit0H (s : State) : Result := cbBit 0 (.reg .h) s

/-- `BIT 0,L`, 0xCB 0x45 (R379). -/
def execBit0L (s : State) : Result := cbBit 0 (.reg .l) s

/-- `BIT 0,(HL)`, 0xCB 0x46 (R379). -/
def execBit0MemHl (s : State) : Result := cbBit 0 .memHl s

/-- `BIT 0,A`, 0xCB 0x47 (R379). -/
def execBit0A (s : State) : Result := cbBit 0 (.reg .a) s

/-- `BIT 1,B`, 0xCB 0x48 (R379). -/
def execBit1B (s : State) : Result := cbBit 1 (.reg .b) s

/-- `BIT 1,C`, 0xCB 0x49 (R379). -/
def execBit1C (s : State) : Result := cbBit 1 (.reg .c) s

/-- `BIT 1,D`, 0xCB 0x4A (R379). -/
def execBit1D (s : State) : Result := cbBit 1 (.reg .d) s

/-- `BIT 1,E`, 0xCB 0x4B (R379). -/
def execBit1E (s : State) : Result := cbBit 1 (.reg .e) s

/-- `BIT 1,H`, 0xCB 0x4C (R379). -/
def execBit1H (s : State) : Result := cbBit 1 (.reg .h) s

/-- `BIT 1,L`, 0xCB 0x4D (R379). -/
def execBit1L (s : State) : Result := cbBit 1 (.reg .l) s

/-- `BIT 1,(HL)`, 0xCB 0x4E (R379). -/
def execBit1MemHl (s : State) : Result := cbBit 1 .memHl s

/-- `BIT 1,A`, 0xCB 0x4F (R379). -/
def execBit1A (s : State) : Result := cbBit 1 (.reg .a) s

/-- `BIT 2,B`, 0xCB 0x50 (R379). -/
def execBit2B (s : State) : Result := cbBit 2 (.reg .b) s

/-- `BIT 2,C`, 0xCB 0x51 (R379). -/
def execBit2C (s : State) : Result := cbBit 2 (.reg .c) s

/-- `BIT 2,D`, 0xCB 0x52 (R379). -/
def execBit2D (s : State) : Result := cbBit 2 (.reg .d) s

/-- `BIT 2,E`, 0xCB 0x53 (R379). -/
def execBit2E (s : State) : Result := cbBit 2 (.reg .e) s

/-- `BIT 2,H`, 0xCB 0x54 (R379). -/
def execBit2H (s : State) : Result := cbBit 2 (.reg .h) s

/-- `BIT 2,L`, 0xCB 0x55 (R379). -/
def execBit2L (s : State) : Result := cbBit 2 (.reg .l) s

/-- `BIT 2,(HL)`, 0xCB 0x56 (R379). -/
def execBit2MemHl (s : State) : Result := cbBit 2 .memHl s

/-- `BIT 2,A`, 0xCB 0x57 (R379). -/
def execBit2A (s : State) : Result := cbBit 2 (.reg .a) s

/-- `BIT 3,B`, 0xCB 0x58 (R379). -/
def execBit3B (s : State) : Result := cbBit 3 (.reg .b) s

/-- `BIT 3,C`, 0xCB 0x59 (R379). -/
def execBit3C (s : State) : Result := cbBit 3 (.reg .c) s

/-- `BIT 3,D`, 0xCB 0x5A (R379). -/
def execBit3D (s : State) : Result := cbBit 3 (.reg .d) s

/-- `BIT 3,E`, 0xCB 0x5B (R379). -/
def execBit3E (s : State) : Result := cbBit 3 (.reg .e) s

/-- `BIT 3,H`, 0xCB 0x5C (R379). -/
def execBit3H (s : State) : Result := cbBit 3 (.reg .h) s

/-- `BIT 3,L`, 0xCB 0x5D (R379). -/
def execBit3L (s : State) : Result := cbBit 3 (.reg .l) s

/-- `BIT 3,(HL)`, 0xCB 0x5E (R379). -/
def execBit3MemHl (s : State) : Result := cbBit 3 .memHl s

/-- `BIT 3,A`, 0xCB 0x5F (R379). -/
def execBit3A (s : State) : Result := cbBit 3 (.reg .a) s

/-- `BIT 4,B`, 0xCB 0x60 (R379). -/
def execBit4B (s : State) : Result := cbBit 4 (.reg .b) s

/-- `BIT 4,C`, 0xCB 0x61 (R379). -/
def execBit4C (s : State) : Result := cbBit 4 (.reg .c) s

/-- `BIT 4,D`, 0xCB 0x62 (R379). -/
def execBit4D (s : State) : Result := cbBit 4 (.reg .d) s

/-- `BIT 4,E`, 0xCB 0x63 (R379). -/
def execBit4E (s : State) : Result := cbBit 4 (.reg .e) s

/-- `BIT 4,H`, 0xCB 0x64 (R379). -/
def execBit4H (s : State) : Result := cbBit 4 (.reg .h) s

/-- `BIT 4,L`, 0xCB 0x65 (R379). -/
def execBit4L (s : State) : Result := cbBit 4 (.reg .l) s

/-- `BIT 4,(HL)`, 0xCB 0x66 (R379). -/
def execBit4MemHl (s : State) : Result := cbBit 4 .memHl s

/-- `BIT 4,A`, 0xCB 0x67 (R379). -/
def execBit4A (s : State) : Result := cbBit 4 (.reg .a) s

/-- `BIT 5,B`, 0xCB 0x68 (R379). -/
def execBit5B (s : State) : Result := cbBit 5 (.reg .b) s

/-- `BIT 5,C`, 0xCB 0x69 (R379). -/
def execBit5C (s : State) : Result := cbBit 5 (.reg .c) s

/-- `BIT 5,D`, 0xCB 0x6A (R379). -/
def execBit5D (s : State) : Result := cbBit 5 (.reg .d) s

/-- `BIT 5,E`, 0xCB 0x6B (R379). -/
def execBit5E (s : State) : Result := cbBit 5 (.reg .e) s

/-- `BIT 5,H`, 0xCB 0x6C (R379). -/
def execBit5H (s : State) : Result := cbBit 5 (.reg .h) s

/-- `BIT 5,L`, 0xCB 0x6D (R379). -/
def execBit5L (s : State) : Result := cbBit 5 (.reg .l) s

/-- `BIT 5,(HL)`, 0xCB 0x6E (R379). -/
def execBit5MemHl (s : State) : Result := cbBit 5 .memHl s

/-- `BIT 5,A`, 0xCB 0x6F (R379). -/
def execBit5A (s : State) : Result := cbBit 5 (.reg .a) s

/-- `BIT 6,B`, 0xCB 0x70 (R379). -/
def execBit6B (s : State) : Result := cbBit 6 (.reg .b) s

/-- `BIT 6,C`, 0xCB 0x71 (R379). -/
def execBit6C (s : State) : Result := cbBit 6 (.reg .c) s

/-- `BIT 6,D`, 0xCB 0x72 (R379). -/
def execBit6D (s : State) : Result := cbBit 6 (.reg .d) s

/-- `BIT 6,E`, 0xCB 0x73 (R379). -/
def execBit6E (s : State) : Result := cbBit 6 (.reg .e) s

/-- `BIT 6,H`, 0xCB 0x74 (R379). -/
def execBit6H (s : State) : Result := cbBit 6 (.reg .h) s

/-- `BIT 6,L`, 0xCB 0x75 (R379). -/
def execBit6L (s : State) : Result := cbBit 6 (.reg .l) s

/-- `BIT 6,(HL)`, 0xCB 0x76 (R379). -/
def execBit6MemHl (s : State) : Result := cbBit 6 .memHl s

/-- `BIT 6,A`, 0xCB 0x77 (R379). -/
def execBit6A (s : State) : Result := cbBit 6 (.reg .a) s

/-- `BIT 7,B`, 0xCB 0x78 (R379). -/
def execBit7B (s : State) : Result := cbBit 7 (.reg .b) s

/-- `BIT 7,C`, 0xCB 0x79 (R379). -/
def execBit7C (s : State) : Result := cbBit 7 (.reg .c) s

/-- `BIT 7,D`, 0xCB 0x7A (R379). -/
def execBit7D (s : State) : Result := cbBit 7 (.reg .d) s

/-- `BIT 7,E`, 0xCB 0x7B (R379). -/
def execBit7E (s : State) : Result := cbBit 7 (.reg .e) s

/-- `BIT 7,H`, 0xCB 0x7C (R379). -/
def execBit7H (s : State) : Result := cbBit 7 (.reg .h) s

/-- `BIT 7,L`, 0xCB 0x7D (R379). -/
def execBit7L (s : State) : Result := cbBit 7 (.reg .l) s

/-- `BIT 7,(HL)`, 0xCB 0x7E (R379). -/
def execBit7MemHl (s : State) : Result := cbBit 7 .memHl s

/-- `BIT 7,A`, 0xCB 0x7F (R379). -/
def execBit7A (s : State) : Result := cbBit 7 (.reg .a) s

/-- `RES 0,B`, 0xCB 0x80 (R380). -/
def execRes0B (s : State) : Result := cbRes 0 (.reg .b) s

/-- `RES 0,C`, 0xCB 0x81 (R380). -/
def execRes0C (s : State) : Result := cbRes 0 (.reg .c) s

/-- `RES 0,D`, 0xCB 0x82 (R380). -/
def execRes0D (s : State) : Result := cbRes 0 (.reg .d) s

/-- `RES 0,E`, 0xCB 0x83 (R380). -/
def execRes0E (s : State) : Result := cbRes 0 (.reg .e) s

/-- `RES 0,H`, 0xCB 0x84 (R380). -/
def execRes0H (s : State) : Result := cbRes 0 (.reg .h) s

/-- `RES 0,L`, 0xCB 0x85 (R380). -/
def execRes0L (s : State) : Result := cbRes 0 (.reg .l) s

/-- `RES 0,(HL)`, 0xCB 0x86 (R380). -/
def execRes0MemHl (s : State) : Result := cbRes 0 .memHl s

/-- `RES 0,A`, 0xCB 0x87 (R380). -/
def execRes0A (s : State) : Result := cbRes 0 (.reg .a) s

/-- `RES 1,B`, 0xCB 0x88 (R380). -/
def execRes1B (s : State) : Result := cbRes 1 (.reg .b) s

/-- `RES 1,C`, 0xCB 0x89 (R380). -/
def execRes1C (s : State) : Result := cbRes 1 (.reg .c) s

/-- `RES 1,D`, 0xCB 0x8A (R380). -/
def execRes1D (s : State) : Result := cbRes 1 (.reg .d) s

/-- `RES 1,E`, 0xCB 0x8B (R380). -/
def execRes1E (s : State) : Result := cbRes 1 (.reg .e) s

/-- `RES 1,H`, 0xCB 0x8C (R380). -/
def execRes1H (s : State) : Result := cbRes 1 (.reg .h) s

/-- `RES 1,L`, 0xCB 0x8D (R380). -/
def execRes1L (s : State) : Result := cbRes 1 (.reg .l) s

/-- `RES 1,(HL)`, 0xCB 0x8E (R380). -/
def execRes1MemHl (s : State) : Result := cbRes 1 .memHl s

/-- `RES 1,A`, 0xCB 0x8F (R380). -/
def execRes1A (s : State) : Result := cbRes 1 (.reg .a) s

/-- `RES 2,B`, 0xCB 0x90 (R380). -/
def execRes2B (s : State) : Result := cbRes 2 (.reg .b) s

/-- `RES 2,C`, 0xCB 0x91 (R380). -/
def execRes2C (s : State) : Result := cbRes 2 (.reg .c) s

/-- `RES 2,D`, 0xCB 0x92 (R380). -/
def execRes2D (s : State) : Result := cbRes 2 (.reg .d) s

/-- `RES 2,E`, 0xCB 0x93 (R380). -/
def execRes2E (s : State) : Result := cbRes 2 (.reg .e) s

/-- `RES 2,H`, 0xCB 0x94 (R380). -/
def execRes2H (s : State) : Result := cbRes 2 (.reg .h) s

/-- `RES 2,L`, 0xCB 0x95 (R380). -/
def execRes2L (s : State) : Result := cbRes 2 (.reg .l) s

/-- `RES 2,(HL)`, 0xCB 0x96 (R380). -/
def execRes2MemHl (s : State) : Result := cbRes 2 .memHl s

/-- `RES 2,A`, 0xCB 0x97 (R380). -/
def execRes2A (s : State) : Result := cbRes 2 (.reg .a) s

/-- `RES 3,B`, 0xCB 0x98 (R380). -/
def execRes3B (s : State) : Result := cbRes 3 (.reg .b) s

/-- `RES 3,C`, 0xCB 0x99 (R380). -/
def execRes3C (s : State) : Result := cbRes 3 (.reg .c) s

/-- `RES 3,D`, 0xCB 0x9A (R380). -/
def execRes3D (s : State) : Result := cbRes 3 (.reg .d) s

/-- `RES 3,E`, 0xCB 0x9B (R380). -/
def execRes3E (s : State) : Result := cbRes 3 (.reg .e) s

/-- `RES 3,H`, 0xCB 0x9C (R380). -/
def execRes3H (s : State) : Result := cbRes 3 (.reg .h) s

/-- `RES 3,L`, 0xCB 0x9D (R380). -/
def execRes3L (s : State) : Result := cbRes 3 (.reg .l) s

/-- `RES 3,(HL)`, 0xCB 0x9E (R380). -/
def execRes3MemHl (s : State) : Result := cbRes 3 .memHl s

/-- `RES 3,A`, 0xCB 0x9F (R380). -/
def execRes3A (s : State) : Result := cbRes 3 (.reg .a) s

/-- `RES 4,B`, 0xCB 0xA0 (R380). -/
def execRes4B (s : State) : Result := cbRes 4 (.reg .b) s

/-- `RES 4,C`, 0xCB 0xA1 (R380). -/
def execRes4C (s : State) : Result := cbRes 4 (.reg .c) s

/-- `RES 4,D`, 0xCB 0xA2 (R380). -/
def execRes4D (s : State) : Result := cbRes 4 (.reg .d) s

/-- `RES 4,E`, 0xCB 0xA3 (R380). -/
def execRes4E (s : State) : Result := cbRes 4 (.reg .e) s

/-- `RES 4,H`, 0xCB 0xA4 (R380). -/
def execRes4H (s : State) : Result := cbRes 4 (.reg .h) s

/-- `RES 4,L`, 0xCB 0xA5 (R380). -/
def execRes4L (s : State) : Result := cbRes 4 (.reg .l) s

/-- `RES 4,(HL)`, 0xCB 0xA6 (R380). -/
def execRes4MemHl (s : State) : Result := cbRes 4 .memHl s

/-- `RES 4,A`, 0xCB 0xA7 (R380). -/
def execRes4A (s : State) : Result := cbRes 4 (.reg .a) s

/-- `RES 5,B`, 0xCB 0xA8 (R380). -/
def execRes5B (s : State) : Result := cbRes 5 (.reg .b) s

/-- `RES 5,C`, 0xCB 0xA9 (R380). -/
def execRes5C (s : State) : Result := cbRes 5 (.reg .c) s

/-- `RES 5,D`, 0xCB 0xAA (R380). -/
def execRes5D (s : State) : Result := cbRes 5 (.reg .d) s

/-- `RES 5,E`, 0xCB 0xAB (R380). -/
def execRes5E (s : State) : Result := cbRes 5 (.reg .e) s

/-- `RES 5,H`, 0xCB 0xAC (R380). -/
def execRes5H (s : State) : Result := cbRes 5 (.reg .h) s

/-- `RES 5,L`, 0xCB 0xAD (R380). -/
def execRes5L (s : State) : Result := cbRes 5 (.reg .l) s

/-- `RES 5,(HL)`, 0xCB 0xAE (R380). -/
def execRes5MemHl (s : State) : Result := cbRes 5 .memHl s

/-- `RES 5,A`, 0xCB 0xAF (R380). -/
def execRes5A (s : State) : Result := cbRes 5 (.reg .a) s

/-- `RES 6,B`, 0xCB 0xB0 (R380). -/
def execRes6B (s : State) : Result := cbRes 6 (.reg .b) s

/-- `RES 6,C`, 0xCB 0xB1 (R380). -/
def execRes6C (s : State) : Result := cbRes 6 (.reg .c) s

/-- `RES 6,D`, 0xCB 0xB2 (R380). -/
def execRes6D (s : State) : Result := cbRes 6 (.reg .d) s

/-- `RES 6,E`, 0xCB 0xB3 (R380). -/
def execRes6E (s : State) : Result := cbRes 6 (.reg .e) s

/-- `RES 6,H`, 0xCB 0xB4 (R380). -/
def execRes6H (s : State) : Result := cbRes 6 (.reg .h) s

/-- `RES 6,L`, 0xCB 0xB5 (R380). -/
def execRes6L (s : State) : Result := cbRes 6 (.reg .l) s

/-- `RES 6,(HL)`, 0xCB 0xB6 (R380). -/
def execRes6MemHl (s : State) : Result := cbRes 6 .memHl s

/-- `RES 6,A`, 0xCB 0xB7 (R380). -/
def execRes6A (s : State) : Result := cbRes 6 (.reg .a) s

/-- `RES 7,B`, 0xCB 0xB8 (R380). -/
def execRes7B (s : State) : Result := cbRes 7 (.reg .b) s

/-- `RES 7,C`, 0xCB 0xB9 (R380). -/
def execRes7C (s : State) : Result := cbRes 7 (.reg .c) s

/-- `RES 7,D`, 0xCB 0xBA (R380). -/
def execRes7D (s : State) : Result := cbRes 7 (.reg .d) s

/-- `RES 7,E`, 0xCB 0xBB (R380). -/
def execRes7E (s : State) : Result := cbRes 7 (.reg .e) s

/-- `RES 7,H`, 0xCB 0xBC (R380). -/
def execRes7H (s : State) : Result := cbRes 7 (.reg .h) s

/-- `RES 7,L`, 0xCB 0xBD (R380). -/
def execRes7L (s : State) : Result := cbRes 7 (.reg .l) s

/-- `RES 7,(HL)`, 0xCB 0xBE (R380). -/
def execRes7MemHl (s : State) : Result := cbRes 7 .memHl s

/-- `RES 7,A`, 0xCB 0xBF (R380). -/
def execRes7A (s : State) : Result := cbRes 7 (.reg .a) s

/-- `SET 0,B`, 0xCB 0xC0 (R381). -/
def execSet0B (s : State) : Result := cbSet 0 (.reg .b) s

/-- `SET 0,C`, 0xCB 0xC1 (R381). -/
def execSet0C (s : State) : Result := cbSet 0 (.reg .c) s

/-- `SET 0,D`, 0xCB 0xC2 (R381). -/
def execSet0D (s : State) : Result := cbSet 0 (.reg .d) s

/-- `SET 0,E`, 0xCB 0xC3 (R381). -/
def execSet0E (s : State) : Result := cbSet 0 (.reg .e) s

/-- `SET 0,H`, 0xCB 0xC4 (R381). -/
def execSet0H (s : State) : Result := cbSet 0 (.reg .h) s

/-- `SET 0,L`, 0xCB 0xC5 (R381). -/
def execSet0L (s : State) : Result := cbSet 0 (.reg .l) s

/-- `SET 0,(HL)`, 0xCB 0xC6 (R381). -/
def execSet0MemHl (s : State) : Result := cbSet 0 .memHl s

/-- `SET 0,A`, 0xCB 0xC7 (R381). -/
def execSet0A (s : State) : Result := cbSet 0 (.reg .a) s

/-- `SET 1,B`, 0xCB 0xC8 (R381). -/
def execSet1B (s : State) : Result := cbSet 1 (.reg .b) s

/-- `SET 1,C`, 0xCB 0xC9 (R381). -/
def execSet1C (s : State) : Result := cbSet 1 (.reg .c) s

/-- `SET 1,D`, 0xCB 0xCA (R381). -/
def execSet1D (s : State) : Result := cbSet 1 (.reg .d) s

/-- `SET 1,E`, 0xCB 0xCB (R381). -/
def execSet1E (s : State) : Result := cbSet 1 (.reg .e) s

/-- `SET 1,H`, 0xCB 0xCC (R381). -/
def execSet1H (s : State) : Result := cbSet 1 (.reg .h) s

/-- `SET 1,L`, 0xCB 0xCD (R381). -/
def execSet1L (s : State) : Result := cbSet 1 (.reg .l) s

/-- `SET 1,(HL)`, 0xCB 0xCE (R381). -/
def execSet1MemHl (s : State) : Result := cbSet 1 .memHl s

/-- `SET 1,A`, 0xCB 0xCF (R381). -/
def execSet1A (s : State) : Result := cbSet 1 (.reg .a) s

/-- `SET 2,B`, 0xCB 0xD0 (R381). -/
def execSet2B (s : State) : Result := cbSet 2 (.reg .b) s

/-- `SET 2,C`, 0xCB 0xD1 (R381). -/
def execSet2C (s : State) : Result := cbSet 2 (.reg .c) s

/-- `SET 2,D`, 0xCB 0xD2 (R381). -/
def execSet2D (s : State) : Result := cbSet 2 (.reg .d) s

/-- `SET 2,E`, 0xCB 0xD3 (R381). -/
def execSet2E (s : State) : Result := cbSet 2 (.reg .e) s

/-- `SET 2,H`, 0xCB 0xD4 (R381). -/
def execSet2H (s : State) : Result := cbSet 2 (.reg .h) s

/-- `SET 2,L`, 0xCB 0xD5 (R381). -/
def execSet2L (s : State) : Result := cbSet 2 (.reg .l) s

/-- `SET 2,(HL)`, 0xCB 0xD6 (R381). -/
def execSet2MemHl (s : State) : Result := cbSet 2 .memHl s

/-- `SET 2,A`, 0xCB 0xD7 (R381). -/
def execSet2A (s : State) : Result := cbSet 2 (.reg .a) s

/-- `SET 3,B`, 0xCB 0xD8 (R381). -/
def execSet3B (s : State) : Result := cbSet 3 (.reg .b) s

/-- `SET 3,C`, 0xCB 0xD9 (R381). -/
def execSet3C (s : State) : Result := cbSet 3 (.reg .c) s

/-- `SET 3,D`, 0xCB 0xDA (R381). -/
def execSet3D (s : State) : Result := cbSet 3 (.reg .d) s

/-- `SET 3,E`, 0xCB 0xDB (R381). -/
def execSet3E (s : State) : Result := cbSet 3 (.reg .e) s

/-- `SET 3,H`, 0xCB 0xDC (R381). -/
def execSet3H (s : State) : Result := cbSet 3 (.reg .h) s

/-- `SET 3,L`, 0xCB 0xDD (R381). -/
def execSet3L (s : State) : Result := cbSet 3 (.reg .l) s

/-- `SET 3,(HL)`, 0xCB 0xDE (R381). -/
def execSet3MemHl (s : State) : Result := cbSet 3 .memHl s

/-- `SET 3,A`, 0xCB 0xDF (R381). -/
def execSet3A (s : State) : Result := cbSet 3 (.reg .a) s

/-- `SET 4,B`, 0xCB 0xE0 (R381). -/
def execSet4B (s : State) : Result := cbSet 4 (.reg .b) s

/-- `SET 4,C`, 0xCB 0xE1 (R381). -/
def execSet4C (s : State) : Result := cbSet 4 (.reg .c) s

/-- `SET 4,D`, 0xCB 0xE2 (R381). -/
def execSet4D (s : State) : Result := cbSet 4 (.reg .d) s

/-- `SET 4,E`, 0xCB 0xE3 (R381). -/
def execSet4E (s : State) : Result := cbSet 4 (.reg .e) s

/-- `SET 4,H`, 0xCB 0xE4 (R381). -/
def execSet4H (s : State) : Result := cbSet 4 (.reg .h) s

/-- `SET 4,L`, 0xCB 0xE5 (R381). -/
def execSet4L (s : State) : Result := cbSet 4 (.reg .l) s

/-- `SET 4,(HL)`, 0xCB 0xE6 (R381). -/
def execSet4MemHl (s : State) : Result := cbSet 4 .memHl s

/-- `SET 4,A`, 0xCB 0xE7 (R381). -/
def execSet4A (s : State) : Result := cbSet 4 (.reg .a) s

/-- `SET 5,B`, 0xCB 0xE8 (R381). -/
def execSet5B (s : State) : Result := cbSet 5 (.reg .b) s

/-- `SET 5,C`, 0xCB 0xE9 (R381). -/
def execSet5C (s : State) : Result := cbSet 5 (.reg .c) s

/-- `SET 5,D`, 0xCB 0xEA (R381). -/
def execSet5D (s : State) : Result := cbSet 5 (.reg .d) s

/-- `SET 5,E`, 0xCB 0xEB (R381). -/
def execSet5E (s : State) : Result := cbSet 5 (.reg .e) s

/-- `SET 5,H`, 0xCB 0xEC (R381). -/
def execSet5H (s : State) : Result := cbSet 5 (.reg .h) s

/-- `SET 5,L`, 0xCB 0xED (R381). -/
def execSet5L (s : State) : Result := cbSet 5 (.reg .l) s

/-- `SET 5,(HL)`, 0xCB 0xEE (R381). -/
def execSet5MemHl (s : State) : Result := cbSet 5 .memHl s

/-- `SET 5,A`, 0xCB 0xEF (R381). -/
def execSet5A (s : State) : Result := cbSet 5 (.reg .a) s

/-- `SET 6,B`, 0xCB 0xF0 (R381). -/
def execSet6B (s : State) : Result := cbSet 6 (.reg .b) s

/-- `SET 6,C`, 0xCB 0xF1 (R381). -/
def execSet6C (s : State) : Result := cbSet 6 (.reg .c) s

/-- `SET 6,D`, 0xCB 0xF2 (R381). -/
def execSet6D (s : State) : Result := cbSet 6 (.reg .d) s

/-- `SET 6,E`, 0xCB 0xF3 (R381). -/
def execSet6E (s : State) : Result := cbSet 6 (.reg .e) s

/-- `SET 6,H`, 0xCB 0xF4 (R381). -/
def execSet6H (s : State) : Result := cbSet 6 (.reg .h) s

/-- `SET 6,L`, 0xCB 0xF5 (R381). -/
def execSet6L (s : State) : Result := cbSet 6 (.reg .l) s

/-- `SET 6,(HL)`, 0xCB 0xF6 (R381). -/
def execSet6MemHl (s : State) : Result := cbSet 6 .memHl s

/-- `SET 6,A`, 0xCB 0xF7 (R381). -/
def execSet6A (s : State) : Result := cbSet 6 (.reg .a) s

/-- `SET 7,B`, 0xCB 0xF8 (R381). -/
def execSet7B (s : State) : Result := cbSet 7 (.reg .b) s

/-- `SET 7,C`, 0xCB 0xF9 (R381). -/
def execSet7C (s : State) : Result := cbSet 7 (.reg .c) s

/-- `SET 7,D`, 0xCB 0xFA (R381). -/
def execSet7D (s : State) : Result := cbSet 7 (.reg .d) s

/-- `SET 7,E`, 0xCB 0xFB (R381). -/
def execSet7E (s : State) : Result := cbSet 7 (.reg .e) s

/-- `SET 7,H`, 0xCB 0xFC (R381). -/
def execSet7H (s : State) : Result := cbSet 7 (.reg .h) s

/-- `SET 7,L`, 0xCB 0xFD (R381). -/
def execSet7L (s : State) : Result := cbSet 7 (.reg .l) s

/-- `SET 7,(HL)`, 0xCB 0xFE (R381). -/
def execSet7MemHl (s : State) : Result := cbSet 7 .memHl s

/-- `SET 7,A`, 0xCB 0xFF (R381). -/
def execSet7A (s : State) : Result := cbSet 7 (.reg .a) s

end Sys2Proof.Machine
end

