-- ==== Sys2Proof/Machine/Control.lean ====
section
/-! DEFINITION. Control transfer (43_control.md R320 to R331). The immediates are fetched whether or not the condition
holds, and the pushed return address is PC after all of the instruction's bytes (R320). No instruction here writes F. -/

namespace Sys2Proof.Machine

open Sys2Proof

/-! ### The shared shapes -/

/-- Push the address of the next instruction and go to `target` (R326, R331). -/
def callTo (target : Word) (s : State) : State := { push16 s.pc s with pc := target }

/-- Pop PC (R328). -/
def returned (s : State) : State := { popped s with pc := popValue s }

/-- `JP cc,a16` (R322). -/
def jpIf (cc : Cond) (a : Word) (s : State) : Result :=
  let s := s.fetched 3
  if s.cond cc then finish 16 { s with pc := a } else finish 12 s

/-- `JR cc,e8` (R325). -/
def jrIf (cc : Cond) (e : Byte) (s : State) : Result :=
  let s := s.fetched 2
  if s.cond cc then finish 12 { s with pc := s.pc + sext8 e } else finish 8 s

/-- `CALL cc,a16` (R327). -/
def callIf (cc : Cond) (a : Word) (s : State) : Result :=
  let s := s.fetched 3
  if s.cond cc then finish 24 (callTo a s) else finish 12 s

/-- `RET cc` (R329). -/
def retIf (cc : Cond) (s : State) : Result :=
  let s := s.fetched 1
  if s.cond cc then finish 20 (returned s) else finish 8 s

/-- `RST t` with `t = y`, target `y * 8` (R331, 30_encoding.md R147). -/
def rstTo (y : Nat) (s : State) : Result := finish 16 (callTo (BitVec.ofNat 16 (8 * y)) (s.fetched 1))

/-! ### The instructions -/

/-- `JP a16`, 0xC3 (R321). -/
def execJpA16 (a : Word) (s : State) : Result := finish 16 { s.fetched 3 with pc := a }

/-- `JP HL`, 0xE9 (R323): no memory access. -/
def execJpHl (s : State) : Result := finish 4 { s.fetched 1 with pc := s.hl }

/-- `JR e8`, 0x18 (R324): relative to the address after the two bytes. -/
def execJrE8 (e : Byte) (s : State) : Result :=
  let s := s.fetched 2
  finish 12 { s with pc := s.pc + sext8 e }

/-- `CALL a16`, 0xCD (R326). -/
def execCallA16 (a : Word) (s : State) : Result := finish 24 (callTo a (s.fetched 3))

/-- `RET`, 0xC9 (R328). -/
def execRet (s : State) : Result := finish 16 (returned (s.fetched 1))

/-- `RETI`, 0xD9 (R330). -/
def execReti (s : State) : Result := finish 16 (returnFromInterrupt (s.fetched 1))

/-- `JR NZ,e8`, 0x20 (R325). -/
def execJrNzE8 (e : Byte) (s : State) : Result := jrIf .nz e s

/-- `JR Z,e8`, 0x28 (R325). -/
def execJrZE8 (e : Byte) (s : State) : Result := jrIf .z e s

/-- `JR NC,e8`, 0x30 (R325). -/
def execJrNcE8 (e : Byte) (s : State) : Result := jrIf .nc e s

/-- `JR C,e8`, 0x38 (R325). -/
def execJrCE8 (e : Byte) (s : State) : Result := jrIf .c e s

/-- `RET NZ`, 0xC0 (R329). -/
def execRetNz (s : State) : Result := retIf .nz s

/-- `JP NZ,a16`, 0xC2 (R322). -/
def execJpNzA16 (a : Word) (s : State) : Result := jpIf .nz a s

/-- `CALL NZ,a16`, 0xC4 (R327). -/
def execCallNzA16 (a : Word) (s : State) : Result := callIf .nz a s

/-- `RST 00H`, 0xC7 (R331). -/
def execRst00 (s : State) : Result := rstTo 0 s

/-- `RET Z`, 0xC8 (R329). -/
def execRetZ (s : State) : Result := retIf .z s

/-- `JP Z,a16`, 0xCA (R322). -/
def execJpZA16 (a : Word) (s : State) : Result := jpIf .z a s

/-- `CALL Z,a16`, 0xCC (R327). -/
def execCallZA16 (a : Word) (s : State) : Result := callIf .z a s

/-- `RST 08H`, 0xCF (R331). -/
def execRst08 (s : State) : Result := rstTo 1 s

/-- `RET NC`, 0xD0 (R329). -/
def execRetNc (s : State) : Result := retIf .nc s

/-- `JP NC,a16`, 0xD2 (R322). -/
def execJpNcA16 (a : Word) (s : State) : Result := jpIf .nc a s

/-- `CALL NC,a16`, 0xD4 (R327). -/
def execCallNcA16 (a : Word) (s : State) : Result := callIf .nc a s

/-- `RST 10H`, 0xD7 (R331). -/
def execRst10 (s : State) : Result := rstTo 2 s

/-- `RET C`, 0xD8 (R329). -/
def execRetC (s : State) : Result := retIf .c s

/-- `JP C,a16`, 0xDA (R322). -/
def execJpCA16 (a : Word) (s : State) : Result := jpIf .c a s

/-- `CALL C,a16`, 0xDC (R327). -/
def execCallCA16 (a : Word) (s : State) : Result := callIf .c a s

/-- `RST 18H`, 0xDF (R331). -/
def execRst18 (s : State) : Result := rstTo 3 s

/-- `RST 20H`, 0xE7 (R331). -/
def execRst20 (s : State) : Result := rstTo 4 s

/-- `RST 28H`, 0xEF (R331). -/
def execRst28 (s : State) : Result := rstTo 5 s

/-- `RST 30H`, 0xF7 (R331). -/
def execRst30 (s : State) : Result := rstTo 6 s

/-- `RST 38H`, 0xFF (R331). -/
def execRst38 (s : State) : Result := rstTo 7 s

end Sys2Proof.Machine
end

