-- ==== Sys2Proof/Machine/Loads.lean ====
section
/-! DEFINITION. Loads, stores and the stack (40_loads.md R200 to R225). A meaning takes the state in which PC is the opcode's
address and advances it over the instruction's bytes first (30_encoding.md R141). No instruction here but POP AF writes F. -/

namespace Sys2Proof.Machine

open Sys2Proof

/-! ### The shared shapes -/

/-- `LD r,r'` (R201). -/
def ldRegReg (dst src : Reg8) (s : State) : Result :=
  let s := s.fetched 1
  finish 4 (s.setReg dst (s.reg src))

/-- `LD r,(HL)` (R202). -/
def ldRegMemHl (dst : Reg8) (s : State) : Result :=
  let s := s.fetched 1
  finish 8 (s.setReg dst (busRead s s.hl))

/-- `LD (HL),r` (R203). -/
def ldMemHlReg (src : Reg8) (s : State) : Result :=
  let s := s.fetched 1
  finish 8 (busWrite s.hl (s.reg src) s)

/-- `LD r,d8` (R204). -/
def ldRegImm (dst : Reg8) (n : Byte) (s : State) : Result := finish 8 ((s.fetched 2).setReg dst n)

/-- `LD A,(BC)` and `LD A,(DE)` (R206, R207). -/
def ldAFromPair (p : Pair) (s : State) : Result :=
  let s := s.fetched 1
  finish 8 { s with a := busRead s (s.pair p) }

/-- `LD (BC),A` and `LD (DE),A` (R208, R209). -/
def ldPairFromA (p : Pair) (s : State) : Result :=
  let s := s.fetched 1
  finish 8 (busWrite (s.pair p) s.a s)

/-- `LD rr,d16` (R220). -/
def ldPairImm (p : Pair) (d : Word) (s : State) : Result := finish 12 ((s.fetched 3).setPair p d)

/-- `PUSH rr` (R223). -/
def pushPair (p : StackPair) (s : State) : Result :=
  let s := s.fetched 1
  finish 16 (push16 (s.stackPair p) s)

/-- `POP rr` (R224, R225). -/
def popPair (p : StackPair) (s : State) : Result :=
  let s := s.fetched 1
  finish 12 ((popped s).setStackPair p (popValue s))

/-! ### The instructions -/

/-- `LD (HL),d8`, 0x36 (R205). -/
def execLdMemHlD8 (n : Byte) (s : State) : Result :=
  let s := s.fetched 2
  finish 12 (busWrite s.hl n s)

/-- `LD A,(a16)`, 0xFA (R210). -/
def execLdAMemA16 (a : Word) (s : State) : Result :=
  let s := s.fetched 3
  finish 16 { s with a := busRead s a }

/-- `LD (a16),A`, 0xEA (R211). -/
def execLdMemA16A (a : Word) (s : State) : Result :=
  let s := s.fetched 3
  finish 16 (busWrite a s.a s)

/-- `LDH A,(a8)`, 0xF0 (R212). -/
def execLdhAMemA8 (n : Byte) (s : State) : Result :=
  let s := s.fetched 2
  finish 12 { s with a := busRead s (highPage n) }

/-- `LDH (a8),A`, 0xE0 (R213). -/
def execLdhMemA8A (n : Byte) (s : State) : Result :=
  let s := s.fetched 2
  finish 12 (busWrite (highPage n) s.a s)

/-- `LD A,(C)`, 0xF2 (R214). -/
def execLdAMemC (s : State) : Result :=
  let s := s.fetched 1
  finish 8 { s with a := busRead s (highPage s.c) }

/-- `LD (C),A`, 0xE2 (R215). -/
def execLdMemCA (s : State) : Result :=
  let s := s.fetched 1
  finish 8 (busWrite (highPage s.c) s.a s)

/-- `LD A,(HL+)`, 0x2A (R216): A first, then HL. -/
def execLdAMemHlInc (s : State) : Result :=
  let s := s.fetched 1
  finish 8 (State.setHl { s with a := busRead s s.hl } (s.hl + 1))

/-- `LD A,(HL-)`, 0x3A (R217). -/
def execLdAMemHlDec (s : State) : Result :=
  let s := s.fetched 1
  finish 8 (State.setHl { s with a := busRead s s.hl } (s.hl - 1))

/-- `LD (HL+),A`, 0x22 (R218): the store first, then HL. -/
def execLdMemHlIncA (s : State) : Result :=
  let s := s.fetched 1
  finish 8 ((busWrite s.hl s.a s).setHl (s.hl + 1))

/-- `LD (HL-),A`, 0x32 (R219). -/
def execLdMemHlDecA (s : State) : Result :=
  let s := s.fetched 1
  finish 8 ((busWrite s.hl s.a s).setHl (s.hl - 1))

/-- `LD (a16),SP`, 0x08 (R221): the low byte first. -/
def execLdMemA16Sp (a : Word) (s : State) : Result :=
  let s := s.fetched 3
  finish 20 (busWrite16 a s.sp s)

/-- `LD SP,HL`, 0xF9 (R222). -/
def execLdSpHl (s : State) : Result :=
  let s := s.fetched 1
  finish 8 { s with sp := s.hl }

/-- `POP AF`, 0xF1 (R225). -/
def execPopAf (s : State) : Result := popPair .af s

/-- `LD BC,d16`, 0x01 (R220). -/
def execLdBcD16 (d : Word) (s : State) : Result := ldPairImm .bc d s

/-- `LD (BC),A`, 0x02 (R208). -/
def execLdMemBcA (s : State) : Result := ldPairFromA .bc s

/-- `LD B,d8`, 0x06 (R204). -/
def execLdBD8 (n : Byte) (s : State) : Result := ldRegImm .b n s

/-- `LD A,(BC)`, 0x0A (R206). -/
def execLdAMemBc (s : State) : Result := ldAFromPair .bc s

/-- `LD C,d8`, 0x0E (R204). -/
def execLdCD8 (n : Byte) (s : State) : Result := ldRegImm .c n s

/-- `LD DE,d16`, 0x11 (R220). -/
def execLdDeD16 (d : Word) (s : State) : Result := ldPairImm .de d s

/-- `LD (DE),A`, 0x12 (R209). -/
def execLdMemDeA (s : State) : Result := ldPairFromA .de s

/-- `LD D,d8`, 0x16 (R204). -/
def execLdDD8 (n : Byte) (s : State) : Result := ldRegImm .d n s

/-- `LD A,(DE)`, 0x1A (R207). -/
def execLdAMemDe (s : State) : Result := ldAFromPair .de s

/-- `LD E,d8`, 0x1E (R204). -/
def execLdED8 (n : Byte) (s : State) : Result := ldRegImm .e n s

/-- `LD HL,d16`, 0x21 (R220). -/
def execLdHlD16 (d : Word) (s : State) : Result := ldPairImm .hl d s

/-- `LD H,d8`, 0x26 (R204). -/
def execLdHD8 (n : Byte) (s : State) : Result := ldRegImm .h n s

/-- `LD L,d8`, 0x2E (R204). -/
def execLdLD8 (n : Byte) (s : State) : Result := ldRegImm .l n s

/-- `LD SP,d16`, 0x31 (R220). -/
def execLdSpD16 (d : Word) (s : State) : Result := ldPairImm .sp d s

/-- `LD A,d8`, 0x3E (R204). -/
def execLdAD8 (n : Byte) (s : State) : Result := ldRegImm .a n s

/-- `LD B,B`, 0x40 (R201). -/
def execLdBB (s : State) : Result := ldRegReg .b .b s

/-- `LD B,C`, 0x41 (R201). -/
def execLdBC (s : State) : Result := ldRegReg .b .c s

/-- `LD B,D`, 0x42 (R201). -/
def execLdBD (s : State) : Result := ldRegReg .b .d s

/-- `LD B,E`, 0x43 (R201). -/
def execLdBE (s : State) : Result := ldRegReg .b .e s

/-- `LD B,H`, 0x44 (R201). -/
def execLdBH (s : State) : Result := ldRegReg .b .h s

/-- `LD B,L`, 0x45 (R201). -/
def execLdBL (s : State) : Result := ldRegReg .b .l s

/-- `LD B,(HL)`, 0x46 (R202). -/
def execLdBMemHl (s : State) : Result := ldRegMemHl .b s

/-- `LD B,A`, 0x47 (R201). -/
def execLdBA (s : State) : Result := ldRegReg .b .a s

/-- `LD C,B`, 0x48 (R201). -/
def execLdCB (s : State) : Result := ldRegReg .c .b s

/-- `LD C,C`, 0x49 (R201). -/
def execLdCC (s : State) : Result := ldRegReg .c .c s

/-- `LD C,D`, 0x4A (R201). -/
def execLdCD (s : State) : Result := ldRegReg .c .d s

/-- `LD C,E`, 0x4B (R201). -/
def execLdCE (s : State) : Result := ldRegReg .c .e s

/-- `LD C,H`, 0x4C (R201). -/
def execLdCH (s : State) : Result := ldRegReg .c .h s

/-- `LD C,L`, 0x4D (R201). -/
def execLdCL (s : State) : Result := ldRegReg .c .l s

/-- `LD C,(HL)`, 0x4E (R202). -/
def execLdCMemHl (s : State) : Result := ldRegMemHl .c s

/-- `LD C,A`, 0x4F (R201). -/
def execLdCA (s : State) : Result := ldRegReg .c .a s

/-- `LD D,B`, 0x50 (R201). -/
def execLdDB (s : State) : Result := ldRegReg .d .b s

/-- `LD D,C`, 0x51 (R201). -/
def execLdDC (s : State) : Result := ldRegReg .d .c s

/-- `LD D,D`, 0x52 (R201). -/
def execLdDD (s : State) : Result := ldRegReg .d .d s

/-- `LD D,E`, 0x53 (R201). -/
def execLdDE (s : State) : Result := ldRegReg .d .e s

/-- `LD D,H`, 0x54 (R201). -/
def execLdDH (s : State) : Result := ldRegReg .d .h s

/-- `LD D,L`, 0x55 (R201). -/
def execLdDL (s : State) : Result := ldRegReg .d .l s

/-- `LD D,(HL)`, 0x56 (R202). -/
def execLdDMemHl (s : State) : Result := ldRegMemHl .d s

/-- `LD D,A`, 0x57 (R201). -/
def execLdDA (s : State) : Result := ldRegReg .d .a s

/-- `LD E,B`, 0x58 (R201). -/
def execLdEB (s : State) : Result := ldRegReg .e .b s

/-- `LD E,C`, 0x59 (R201). -/
def execLdEC (s : State) : Result := ldRegReg .e .c s

/-- `LD E,D`, 0x5A (R201). -/
def execLdED (s : State) : Result := ldRegReg .e .d s

/-- `LD E,E`, 0x5B (R201). -/
def execLdEE (s : State) : Result := ldRegReg .e .e s

/-- `LD E,H`, 0x5C (R201). -/
def execLdEH (s : State) : Result := ldRegReg .e .h s

/-- `LD E,L`, 0x5D (R201). -/
def execLdEL (s : State) : Result := ldRegReg .e .l s

/-- `LD E,(HL)`, 0x5E (R202). -/
def execLdEMemHl (s : State) : Result := ldRegMemHl .e s

/-- `LD E,A`, 0x5F (R201). -/
def execLdEA (s : State) : Result := ldRegReg .e .a s

/-- `LD H,B`, 0x60 (R201). -/
def execLdHB (s : State) : Result := ldRegReg .h .b s

/-- `LD H,C`, 0x61 (R201). -/
def execLdHC (s : State) : Result := ldRegReg .h .c s

/-- `LD H,D`, 0x62 (R201). -/
def execLdHD (s : State) : Result := ldRegReg .h .d s

/-- `LD H,E`, 0x63 (R201). -/
def execLdHE (s : State) : Result := ldRegReg .h .e s

/-- `LD H,H`, 0x64 (R201). -/
def execLdHH (s : State) : Result := ldRegReg .h .h s

/-- `LD H,L`, 0x65 (R201). -/
def execLdHL (s : State) : Result := ldRegReg .h .l s

/-- `LD H,(HL)`, 0x66 (R202). -/
def execLdHMemHl (s : State) : Result := ldRegMemHl .h s

/-- `LD H,A`, 0x67 (R201). -/
def execLdHA (s : State) : Result := ldRegReg .h .a s

/-- `LD L,B`, 0x68 (R201). -/
def execLdLB (s : State) : Result := ldRegReg .l .b s

/-- `LD L,C`, 0x69 (R201). -/
def execLdLC (s : State) : Result := ldRegReg .l .c s

/-- `LD L,D`, 0x6A (R201). -/
def execLdLD (s : State) : Result := ldRegReg .l .d s

/-- `LD L,E`, 0x6B (R201). -/
def execLdLE (s : State) : Result := ldRegReg .l .e s

/-- `LD L,H`, 0x6C (R201). -/
def execLdLH (s : State) : Result := ldRegReg .l .h s

/-- `LD L,L`, 0x6D (R201). -/
def execLdLL (s : State) : Result := ldRegReg .l .l s

/-- `LD L,(HL)`, 0x6E (R202). -/
def execLdLMemHl (s : State) : Result := ldRegMemHl .l s

/-- `LD L,A`, 0x6F (R201). -/
def execLdLA (s : State) : Result := ldRegReg .l .a s

/-- `LD (HL),B`, 0x70 (R203). -/
def execLdMemHlB (s : State) : Result := ldMemHlReg .b s

/-- `LD (HL),C`, 0x71 (R203). -/
def execLdMemHlC (s : State) : Result := ldMemHlReg .c s

/-- `LD (HL),D`, 0x72 (R203). -/
def execLdMemHlD (s : State) : Result := ldMemHlReg .d s

/-- `LD (HL),E`, 0x73 (R203). -/
def execLdMemHlE (s : State) : Result := ldMemHlReg .e s

/-- `LD (HL),H`, 0x74 (R203). -/
def execLdMemHlH (s : State) : Result := ldMemHlReg .h s

/-- `LD (HL),L`, 0x75 (R203). -/
def execLdMemHlL (s : State) : Result := ldMemHlReg .l s

/-- `LD (HL),A`, 0x77 (R203). -/
def execLdMemHlA (s : State) : Result := ldMemHlReg .a s

/-- `LD A,B`, 0x78 (R201). -/
def execLdAB (s : State) : Result := ldRegReg .a .b s

/-- `LD A,C`, 0x79 (R201). -/
def execLdAC (s : State) : Result := ldRegReg .a .c s

/-- `LD A,D`, 0x7A (R201). -/
def execLdAD (s : State) : Result := ldRegReg .a .d s

/-- `LD A,E`, 0x7B (R201). -/
def execLdAE (s : State) : Result := ldRegReg .a .e s

/-- `LD A,H`, 0x7C (R201). -/
def execLdAH (s : State) : Result := ldRegReg .a .h s

/-- `LD A,L`, 0x7D (R201). -/
def execLdAL (s : State) : Result := ldRegReg .a .l s

/-- `LD A,(HL)`, 0x7E (R202). -/
def execLdAMemHl (s : State) : Result := ldRegMemHl .a s

/-- `LD A,A`, 0x7F (R201). -/
def execLdAA (s : State) : Result := ldRegReg .a .a s

/-- `POP BC`, 0xC1 (R224). -/
def execPopBc (s : State) : Result := popPair .bc s

/-- `PUSH BC`, 0xC5 (R223). -/
def execPushBc (s : State) : Result := pushPair .bc s

/-- `POP DE`, 0xD1 (R224). -/
def execPopDe (s : State) : Result := popPair .de s

/-- `PUSH DE`, 0xD5 (R223). -/
def execPushDe (s : State) : Result := pushPair .de s

/-- `POP HL`, 0xE1 (R224). -/
def execPopHl (s : State) : Result := popPair .hl s

/-- `PUSH HL`, 0xE5 (R223). -/
def execPushHl (s : State) : Result := pushPair .hl s

/-- `PUSH AF`, 0xF5 (R223). -/
def execPushAf (s : State) : Result := pushPair .af s

end Sys2Proof.Machine
end

