-- ==== Sys2Proof/Machine/System.lean ====
section
/-! DEFINITION. NOP, HALT, STOP, DI, EI and the unassigned opcodes (44_system.md R350 to R356). PREFIX CB is in Cb.lean. -/

namespace Sys2Proof.Machine

open Sys2Proof

/-! ### The shared shapes -/

/-- An unassigned opcode (R356): the fatal decode failure, or a 1-byte no-op, as `ILLEGAL_OPCODE_POLICY` says. -/
def unassigned (op : Byte) (s : State) : Result :=
  match s.params.illegalOpcodePolicy with
  | .fault => .next (raiseDecodeFault op s)
  | .nopAdvance => finish s.params.illegalNopCycles (s.fetched 1)

/-- A pending change of IME, set by the instruction of this step (R353, R354). -/
def setPending (p : ImePend) (s : State) : State := { s with imePend := p, imePendFresh := true }

/-- All eight buttons pressed (R352). -/
def allPressed : Buttons := ⟨true, true, true, true, true, true, true, true⟩

/-- The length of STOP (R352). -/
def stopBytes : StopLength → Nat
  | .one => 1
  | .two => 2

/-- What STOP does once PC is past it (R352): P1, LCDC and TAC are saved, every button is forced pressed, the LCD and the
timer are turned off, and `stopped` is set. -/
def enterStop (s : State) : State :=
  let saved := { s with
    savedP1 := s.rawRead ioP1, savedLcdc := s.rawRead ioLcdc, savedTac := s.rawRead ioTac, pressed := allPressed }
  let lcdOff := saved.rawWrite ioLcdc (saved.rawRead ioLcdc &&& 0x7F)
  let timerOff := lcdOff.rawWrite ioTac (lcdOff.rawRead ioTac &&& 0xFB)
  { timerOff with stopped := true }

/-! ### The instructions -/

/-- `NOP`, 0x00 (R350). -/
def execNop (s : State) : Result := finish 4 (s.fetched 1)

/-- `HALT`, 0x76 (R351): PC steps back to the HALT opcode. -/
def execHalt (s : State) : Result :=
  let s := s.fetched 1
  finish 4 { s with pc := s.pc - 1, halted := true }

/-- `STOP`, 0x10 and an ignored byte that is skipped without a bus read (R352). -/
def execStop (s : State) : Result := finish 4 (enterStop (s.fetched (stopBytes s.params.stopLength)))

/-- `DI`, 0xF3 (R353). -/
def execDi (s : State) : Result := finish 4 (setPending .disable (s.fetched 1))

/-- `EI`, 0xFB (R354). -/
def execEi (s : State) : Result := finish 4 (setPending .enable (s.fetched 1))

/-- `ILLEGAL_D3`, 0xD3 (R356). -/
def execIllegalD3 (s : State) : Result := unassigned 0xD3 s

/-- `ILLEGAL_DB`, 0xDB (R356). -/
def execIllegalDB (s : State) : Result := unassigned 0xDB s

/-- `ILLEGAL_DD`, 0xDD (R356). -/
def execIllegalDD (s : State) : Result := unassigned 0xDD s

/-- `ILLEGAL_E3`, 0xE3 (R356). -/
def execIllegalE3 (s : State) : Result := unassigned 0xE3 s

/-- `ILLEGAL_E4`, 0xE4 (R356). -/
def execIllegalE4 (s : State) : Result := unassigned 0xE4 s

/-- `ILLEGAL_EB`, 0xEB (R356). -/
def execIllegalEB (s : State) : Result := unassigned 0xEB s

/-- `ILLEGAL_EC`, 0xEC (R356). -/
def execIllegalEC (s : State) : Result := unassigned 0xEC s

/-- `ILLEGAL_ED`, 0xED (R356). -/
def execIllegalED (s : State) : Result := unassigned 0xED s

/-- `ILLEGAL_F4`, 0xF4 (R356). -/
def execIllegalF4 (s : State) : Result := unassigned 0xF4 s

/-- `ILLEGAL_FC`, 0xFC (R356). -/
def execIllegalFC (s : State) : Result := unassigned 0xFC s

/-- `ILLEGAL_FD`, 0xFD (R356). -/
def execIllegalFD (s : State) : Result := unassigned 0xFD s

end Sys2Proof.Machine
end

