-- ==== Sys2Proof/Machine/External.lean ====
section
/-! DEFINITION. The host's side of the core (60_exceptions.md R409, R430, R460; 70_reset_and_hazards.md R500 to R508):
cartridge load, button updates, the diagnostic dump and shutdown; and placing bytes behind the bus. -/

namespace Sys2Proof.Machine

open Sys2Proof

/-! ### Button updates (R430) -/

/-- `SetButtons(new)`: a press in a selected group requests the joypad interrupt; a release never does (R430). -/
def setButtons (new : Buttons) (s : State) : State :=
  let dirs := !(s.rawRead ioP1).getLsbD 4
  let btns := !(s.rawRead ioP1).getLsbD 5
  let old := s.pressed
  let pressedNow := dirs && (new.right && !old.right || new.left && !old.left || new.up && !old.up || new.down && !old.down) ||
    btns && (new.a && !old.a || new.b && !old.b || new.select && !old.select || new.start && !old.start)
  let t := if pressedNow then requestInterrupt 4 s else s
  { t with pressed := new }

/-- Button updates, one after the other (R430). -/
def buttonUpdates : List Buttons → State → State
  | [], s => s
  | k :: rest, s => buttonUpdates rest (setButtons k s)

/-- What the host does between two system steps: the updates that the schedule holds for this place (R430, D53). -/
def takeHostInput (s : State) : State :=
  match s.buttonSchedule with
  | [] => s
  | now :: rest => buttonUpdates now { s with buttonSchedule := rest }

/-! ### Cartridge load (R500 to R506) -/

/-- A file image: its length, and its bytes that are not 0, by offset, the offsets rising. -/
structure Image where
  len : Nat
  cells : List Host.Cell
deriving DecidableEq, Repr

/-- The byte at an offset; one past the end of a short image counts as 0x00 (R500). -/
def Image.byte (m : Image) (off : Nat) : Byte := if off < m.len then Memory.read zeroByte m.cells off else 0

/-- The cells of `xs` from offset `n` on. -/
def cellsFrom (n : Nat) : List Byte → List Host.Cell
  | [] => []
  | v :: rest => if v = 0 then cellsFrom (n + 1) rest else (n, v) :: cellsFrom (n + 1) rest

/-- The image of a byte string. -/
def Image.ofBytes (xs : List Byte) : Image := ⟨xs.length, cellsFrom 0 xs⟩

/-- The first `n` bytes of an image as cells. -/
def Image.upTo (m : Image) (n : Nat) : List Host.Cell := m.cells.filter (fun cell => decide (cell.1 < min m.len n))

/-- The cartridge title, bytes 0x134-0x143 up to the first 0x00, from which the host makes the save file's name (R503). -/
def cartTitle (image : Image) : List Byte :=
  ((List.range 16).map (fun k => image.byte (0x134 + k))).takeWhile (fun v => decide (v ≠ 0))

/-- The row of `CART_TYPE_TABLE` for header byte 0x147: no controller and no battery when there is none (R501). -/
def cartType (p : Params) (code : Byte) : CartType :=
  match p.cartTypeTable.find? (fun row => row.code = code) with
  | some row => row
  | none => ⟨code, .noMbc, false⟩

/-- `rom_bank_count` of header byte 0x148; none when the byte is unrecognized (R502). -/
def romBankCountOf (size : Byte) : Option Nat :=
  if size ≤ 8 then some (2 ^ (size.toNat + 1))
  else if size = 0x52 then some 72
  else if size = 0x53 then some 80
  else if size = 0x54 then some 96
  else none

/-- `LoadCartridge(image, save)` (R500): the state it leaves, whatever the state before, with the launch's parameters and
button schedule. -/
def loadCartridge (p : Params) (image : Image) (save : Option Image) (schedule : List (List Buttons)) : State :=
  let cart := cartType p (image.byte 0x147)
  let count := romBankCountOf (image.byte 0x148)
  { State.reset with
    params := p
    raw := image.upTo 0x8000
    romImage := image.upTo image.len
    romLen := image.len
    ramBanks := if cart.battery then (save.map (fun m => m.upTo 0x8000)).getD [] else []
    family := if count.isSome then cart.family else .noMbc
    hasBattery := cart.battery
    romBankCount := count.getD 2
    buttonSchedule := schedule }

/-! ### What the core hands the host (R409, R508) -/

/-- The diagnostic dump of a decode failure (R409). -/
structure Dump where
  a : Byte
  f : Byte
  b : Byte
  c : Byte
  d : Byte
  e : Byte
  h : Byte
  l : Byte
  sp : Word
  pc : Word
  ime : Bool
  op : Byte
  addr : Word
deriving DecidableEq, Repr

/-- The dump, once a decode failure has been latched (R409). -/
def diagnosticDump (s : State) : Option Dump :=
  s.fault.map (fun x => ⟨s.a, s.f, s.b, s.c, s.d, s.e, s.h, s.l, s.sp, s.pc, s.ime, x.op, x.addr⟩)

/-- `Shutdown()`: the 0x8000 bytes of the RAM banks, if the cartridge has a battery (R508). -/
def shutdown (s : State) : Option (List Byte) :=
  if s.hasBattery then some ((List.range 0x8000).map s.ramRead) else none

/-! ### Placing bytes behind the bus -/

/-- Put `v` into the storage that a read of `a` returns (R71), where it has one. No rule of the spec: a loader's poke, for
`State.withFetchWord`. -/
def pokeBus (a : Word) (v : Byte) (s : State) : State :=
  let n := a.toNat
  match regionOf s.params n with
  | .romBank0 => s.rawWrite n v
  | .romSwitchable =>
    { s with romImage := Memory.write zeroByte s.romImage (s.romOffset n) v, romLen := max s.romLen (s.romOffset n + 1) }
  | .vram => s.rawWrite n v
  | .externalRam => if s.ramEnabled then s.ramWrite (s.ramOffset n) v else s
  | .workRam => s.rawWrite n v
  | .echoRam => s.rawWrite (n - 0x2000) v
  | .oam => s.rawWrite n v
  | .unusable => s
  | .joypad => s
  | .cgbStub => s
  | .plainIo => s.rawWrite n v

/-- Put bytes behind the bus from `a` on. -/
def pokeBytes : Word → List Byte → State → State
  | _, [], s => s
  | a, v :: rest, s => pokeBytes (a + 1) rest (pokeBus a v s)

/-- Put an instruction's bytes where the next step fetches them; where PC is in a place without storage (0xFEA0-0xFEFF, P1,
a CGB stub, disabled RAM), PC is moved to work RAM (log entry 10). -/
def placeInstruction (bytes : List Byte) (s : State) : State :=
  let running := { s with fault := none, stopped := false, halted := false }
  let placed := pokeBytes running.pc bytes running
  if fetchBytes (takeHostInput placed) = bytes then placed
  else pokeBytes 0xC000 bytes { running with pc := 0xC000 }

end Sys2Proof.Machine
end

