-- ==== Sys2Proof/Machine/Timer.lean ====
section
/-! DEFINITION. The divider and the timer (60_exceptions.md R420 to R422). A `while` loop of the spec is a recursion whose
count is the most the loop can turn. -/

namespace Sys2Proof.Machine

open Sys2Proof

/-- One turn of the loop of R420: DIV + 1, with 256 cycles taken from the accumulator. -/
def divTick (s : State) : State := { s.rawWrite ioDiv (s.rawRead ioDiv + 1) with divAcc := s.divAcc - 256 }

/-- The loop of R420, at most `fuel` times. -/
def divTicks : Nat → State → State
  | 0, s => s
  | fuel + 1, s => if s.divAcc ≥ 256 then divTicks fuel (divTick s) else s

/-- The divider's part of `TimerUpdate(c)` (R420). -/
def dividerUpdate (c : Nat) (s : State) : State :=
  let t := { s with divAcc := s.divAcc + c }
  divTicks (t.divAcc / 256) t

/-- The cycles per TIMA increment that TAC[1:0] selects (10_state.md R49). -/
def timaPeriod (tac : Byte) : Nat :=
  match (tac &&& 0x03).toNat with
  | 0 => 1024
  | 1 => 16
  | 2 => 64
  | _ => 256

/-- One TIMA increment: on overflow TIMA is reloaded from TMA and the timer interrupt requested (R421). -/
def timaTick (s : State) : State :=
  if s.rawRead ioTima = 0xFF then requestInterrupt 2 (s.rawWrite ioTima (s.rawRead ioTma))
  else s.rawWrite ioTima (s.rawRead ioTima + 1)

/-- The loop of R421, at most `fuel` times. -/
def timaTicks (period : Nat) : Nat → State → State
  | 0, s => s
  | fuel + 1, s =>
    if s.timaAcc ≥ period then timaTicks period fuel (timaTick { s with timaAcc := s.timaAcc - period }) else s

/-- TIMA's part of `TimerUpdate(c)` (R421). -/
def timaUpdate (c : Nat) (s : State) : State :=
  let tac := s.rawRead ioTac
  if tac.getLsbD 2 then
    let t := { s with timaAcc := s.timaAcc + c }
    timaTicks (timaPeriod tac) (t.timaAcc / timaPeriod tac) t
  else s

/-- `TimerUpdate(c)`: the divider, then TIMA (R420, R421). -/
def timerUpdate (c : Nat) (s : State) : State := timaUpdate c (dividerUpdate c s)

end Sys2Proof.Machine
end

