-- ==== Sys2Proof/Machine/Video.lean ====
section
/-! DEFINITION. The LCD/PPU mode sequencer and the scanline rasterizer (60_exceptions.md R440 to R457). Every access is a
`Raw` access (R450). -/

namespace Sys2Proof.Machine

open Sys2Proof

/-! ### Background and window (R451 to R453) -/

/-- `(pal >> (2*ci)) & 3` (R453, 10_state.md R57). -/
def paletteShade (pal : Byte) (ci : Shade) : Shade := (pal >>> (2 * ci.toNat)).setWidth 2

/-- `2*hi[bit] + lo[bit]` (R452). -/
def colourIndex (lo hi : Byte) (bit : Nat) : Shade :=
  BitVec.ofBool (hi.getLsbD bit) ++ BitVec.ofBool (lo.getLsbD bit)

/-- The address of tile `t`'s data: 0x8000 unsigned-indexed, or 0x9000 signed-indexed (R452). -/
def tileAddress (lcdc t : Byte) : Nat :=
  if lcdc.getLsbD 4 then 0x8000 + 16 * t.toNat else (0x9000 + 16 * t.toInt).toNat

/-- The window covers column `x` of line `ly` (R451). `x >= WX - 7` is a signed comparison. -/
def windowCovers (s : State) (ly x : Nat) : Bool :=
  (s.rawRead ioLcdc).getLsbD 5 && decide ((s.rawRead ioWy).toNat ≤ ly) && decide ((s.rawRead ioWx).toNat ≤ x + 7)

/-- The colour index of a pixel of a tile map (R451, R452). -/
def mapPixel (s : State) (map px py : Nat) : Shade :=
  let t := s.rawRead (map + (py / 8) * 32 + px / 8)
  let addr := tileAddress (s.rawRead ioLcdc) t + 2 * (py % 8)
  colourIndex (s.rawRead addr) (s.rawRead (addr + 1)) (7 - px % 8)

/-- The background or window colour index of column `x` of line `ly`, with lcdc bit 0 set (R451). -/
def backgroundPixel (s : State) (ly x : Nat) : Shade :=
  let lcdc := s.rawRead ioLcdc
  if windowCovers s ly x then
    mapPixel s (if lcdc.getLsbD 6 then 0x9C00 else 0x9800) (x + 7 - (s.rawRead ioWx).toNat) (ly - (s.rawRead ioWy).toNat)
  else
    mapPixel s (if lcdc.getLsbD 3 then 0x9C00 else 0x9800) ((x + (s.rawRead ioScx).toNat) % 256)
      ((ly + (s.rawRead ioScy).toNat) % 256)

/-- `bg_index[0..159]` of line `ly` (R451, R453): all 0 when lcdc bit 0 is clear. -/
def backgroundLine (s : State) (ly : Nat) : List Shade :=
  if (s.rawRead ioLcdc).getLsbD 0 then (List.range 160).map (backgroundPixel s ly) else List.replicate 160 0

/-- The shades of the background pass (R451, R453): shade 0 when lcdc bit 0 is clear. -/
def backgroundShades (s : State) (bg : List Shade) : List Shade :=
  if (s.rawRead ioLcdc).getLsbD 0 then bg.map (paletteShade (s.rawRead ioBgp)) else List.replicate 160 0

/-! ### Sprites (R454 to R456) -/

/-- An OAM entry: its screen position, tile index, attributes and OAM index (R454, 20_memory.md R79). -/
structure Sprite where
  y : Int
  x : Int
  tile : Byte
  attr : Byte
  index : Nat
deriving DecidableEq, Repr

/-- OAM entry `i` (R454). -/
def oamEntry (s : State) (i : Nat) : Sprite where
  y := (s.rawRead (0xFE00 + 4 * i)).toNat - 16
  x := (s.rawRead (0xFE01 + 4 * i)).toNat - 8
  tile := s.rawRead (0xFE02 + 4 * i)
  attr := s.rawRead (0xFE03 + 4 * i)
  index := i

/-- `h` of R454: 16 or 8 lines. -/
def spriteHeight (lcdc : Byte) : Nat := if lcdc.getLsbD 2 then 16 else 8

/-- The entries that line `ly` cuts, in OAM order (R454). -/
def selectedSprites (s : State) (ly : Nat) : List Sprite :=
  let h := spriteHeight (s.rawRead ioLcdc)
  if (s.rawRead ioLcdc).getLsbD 1 then
    ((List.range 40).map (oamEntry s)).filter (fun p => decide (p.y ≤ ly) && decide ((ly : Int) < p.y + h))
  else []

/-- The key (X, t, i) of `p` is larger than that of `q` (R455). -/
def drawnBefore (p q : Sprite) : Bool :=
  decide (q.x < p.x) || (decide (p.x = q.x) && (decide (q.tile < p.tile) ||
    (decide (p.tile = q.tile) && decide (q.index < p.index))))

/-- Insert a sprite into a list in drawing order. -/
def insertSprite (p : Sprite) : List Sprite → List Sprite
  | [] => [p]
  | q :: rest => if drawnBefore q p then q :: insertSprite p rest else p :: q :: rest

/-- Drawing order: the largest key first (R455). -/
def sortSprites : List Sprite → List Sprite
  | [] => []
  | p :: rest => insertSprite p (sortSprites rest)

/-- The data address of the sprite's row on line `ly` (R456). -/
def spriteRowAddress (lcdc : Byte) (ly : Nat) (p : Sprite) : Nat :=
  let h := spriteHeight lcdc
  let r0 := ((ly : Int) - p.y).toNat
  let r := if p.attr.getLsbD 6 then h - 1 - r0 else r0
  let tile := if lcdc.getLsbD 2 then p.tile &&& 0xFE else p.tile
  0x8000 + 16 * tile.toNat + 2 * r

/-- Draw pixel `pix` of a sprite into the row of shades (R456). -/
def drawSpritePixel (s : State) (ly : Nat) (bg : List Shade) (p : Sprite) (row : List Shade) (pix : Nat) : List Shade :=
  let sx := p.x + pix
  if sx < 0 ∨ sx > 159 then row
  else
    let addr := spriteRowAddress (s.rawRead ioLcdc) ly p
    let ci := colourIndex (s.rawRead addr) (s.rawRead (addr + 1)) (if p.attr.getLsbD 5 then pix else 7 - pix)
    if ci = 0 then row
    else if p.attr.getLsbD 7 ∧ bg.getD sx.toNat 0 ≠ 0 then row
    else row.set sx.toNat (paletteShade (s.rawRead (if p.attr.getLsbD 4 then ioObp1 else ioObp0)) ci)

/-- Draw a sprite into the row (R456). -/
def drawSprite (s : State) (ly : Nat) (bg : List Shade) (row : List Shade) (p : Sprite) : List Shade :=
  (List.range 8).foldl (drawSpritePixel s ly bg p) row

/-- The 160 shades of line `ly`: the background pass, then the sprite pass (R450). -/
def renderedRow (s : State) (ly : Nat) : List Shade :=
  let bg := backgroundLine s ly
  (sortSprites (selectedSprites s ly)).foldl (drawSprite s ly bg) (backgroundShades s bg)

/-- `RenderLine(ly)` (R450). -/
def renderLine (ly : Nat) (s : State) : State := { s with fb := Memory.write blankRow s.fb ly (renderedRow s ly) }

/-! ### The mode sequencer (R440 to R444) -/

/-- `PresentFrame(FB)` (R443, R457): the whole buffer is handed to the host. DESIGN CHOICE, unsafe: when one update reaches
line 144 more than once, the field keeps the last of the frames handed over (log entry 6). -/
def presentFrame (s : State) : State := { s with presented := some s.fb }

/-- The line number after `ly` (R443). -/
def nextLine (ly : Byte) : Nat := if ly.toNat + 1 > 153 then 0 else ly.toNat + 1

/-- A line advance clears the per-mode latches, and at the wrap past line 153 the VBlank latch (R443). -/
def clearLatches (s : State) : State :=
  { s with
    oamLatch := false, hblankLatch := false,
    vblankLatch := if (s.rawRead ioLy).toNat + 1 > 153 then false else s.vblankLatch }

/-- A line advance renders the new line if it is visible (R443). -/
def renderVisible (ly : Nat) (s : State) : State := if ly < 144 then renderLine ly s else s

/-- The advance to line 144 requests VBlank and hands over the frame (R443). -/
def vblankStart (ly : Nat) (s : State) : State := if ly = 144 then presentFrame (requestInterrupt 0 s) else s

/-- `LineAdvance()` (R443). -/
def lineAdvance (s : State) : State :=
  let ly := nextLine (s.rawRead ioLy)
  let moved := (clearLatches s).rawWrite ioLy (BitVec.ofNat 8 ly)
  vblankStart ly (checkCoincidence (renderVisible ly moved))

/-- The line loop of R441, at most `fuel` times. -/
def lineLoop : Nat → State → State
  | 0, s => s
  | fuel + 1, s =>
    if s.lineAcc ≥ 456 then lineLoop fuel (lineAdvance { s with lineAcc := s.lineAcc - 456 }) else s

/-- The mode of R442: 0 HBlank, 1 VBlank, 2 OAM scan, 3 pixel transfer. -/
def videoMode (ly : Byte) (acc : Nat) : Shade :=
  if ly.toNat ≥ 144 then 1 else if acc < 80 then 2 else if acc < 252 then 3 else 0

/-- The mode goes into STAT[1:0] (R442). -/
def setMode (mode : Shade) (s : State) : State :=
  s.rawWrite ioStat ((s.rawRead ioStat &&& 0xFC) ||| mode.setWidth 8)

/-- The mode-2 request, once until the latch is cleared (R442). -/
def oamRequest (mode : Shade) (s : State) : State :=
  if mode = 2 ∧ (s.rawRead ioStat).getLsbD 5 ∧ ¬ s.oamLatch then { requestInterrupt 1 s with oamLatch := true } else s

/-- The mode-0 request (R442). -/
def hblankRequest (mode : Shade) (s : State) : State :=
  if mode = 0 ∧ (s.rawRead ioStat).getLsbD 3 ∧ ¬ s.hblankLatch then { requestInterrupt 1 s with hblankLatch := true }
  else s

/-- The mode-1 request (R442). -/
def vblankRequest (mode : Shade) (s : State) : State :=
  if mode = 1 ∧ (s.rawRead ioStat).getLsbD 4 ∧ ¬ s.vblankLatch then { requestInterrupt 1 s with vblankLatch := true }
  else s

/-- `ModeUpdate()` (R442). The requests write IF, so the STAT they test is the one just written. -/
def modeUpdate (s : State) : State :=
  let mode := videoMode (s.rawRead ioLy) s.lineAcc
  vblankRequest mode (hblankRequest mode (oamRequest mode (setMode mode s)))

/-- The LCD is off: the sequencer freezes (R440). -/
def lcdOff (s : State) : State :=
  let t := { s with lineAcc := 0, oamLatch := false, hblankLatch := false, vblankLatch := false }
  let u := t.rawWrite ioLy 0
  u.rawWrite ioStat (u.rawRead ioStat &&& 0xFC)

/-- `PpuUpdate(c)` (R440, R441). -/
def ppuUpdate (c : Nat) (s : State) : State :=
  if (s.rawRead ioLcdc).getLsbD 7 then
    let t := { s with lineAcc := s.lineAcc + c }
    modeUpdate (lineLoop (t.lineAcc / 456) t)
  else lcdOff s

end Sys2Proof.Machine
end

