-- ==== Sys2Proof/Machine/CpuStep.lean ====
section
/-! DEFINITION. The step loop (60_exceptions.md R400 to R411): the CPU step, and the system step of CPU, video and timer. -/

namespace Sys2Proof.Machine

open Sys2Proof

/-! ### The interrupt check (R402 to R404) -/

/-- `AgePending()` (R402). -/
def agePending (s : State) : State :=
  match s.imePend with
  | .noChange => s
  | .enable => if s.imePendFresh then { s with imePendFresh := false } else { s with ime := true, imePend := .noChange }
  | .disable => if s.imePendFresh then { s with imePendFresh := false } else { s with ime := false, imePend := .noChange }

/-- The enabled requests, `IE & IF & 0x1F` (R403). -/
def enabledRequests (s : State) : Byte := s.rawRead ioIe &&& s.rawRead ioIf &&& 0x1F

/-- What wakes a halted CPU (R403). -/
def wakeRequests (s : State) : Byte :=
  match s.params.haltWakeMask with
  | .ifOnly => s.rawRead ioIf &&& 0x1F
  | .ieAndIf => enabledRequests s

/-- The lowest set bit of a byte of five requests (R404). -/
def lowestRequest (p : Byte) : Option Nat :=
  if p.getLsbD 0 then some 0
  else if p.getLsbD 1 then some 1
  else if p.getLsbD 2 then some 2
  else if p.getLsbD 3 then some 3
  else if p.getLsbD 4 then some 4
  else none

/-- Service the highest-priority enabled request, if IME is set (R403, R404). -/
def serviceCheck (s : State) : State :=
  if s.ime then
    match lowestRequest (enabledRequests s) with
    | some i => serviceInterrupt i s
    | none => s
  else s

/-- `InterruptCheck()` (R403); the cycles it returns are added to `cycles`. -/
def interruptCheck (s : State) : State :=
  if s.halted then
    if wakeRequests s = 0 then s else serviceCheck { s with halted := false, pc := s.pc + 1 }
  else serviceCheck s

/-! ### The CPU step (R401, R410, R411) -/

/-- `StoppedStep()` (R411). -/
def stoppedStep (s : State) : State :=
  let t := { s with cycles := s.params.stopStepCycles.val }
  if s.pressed = ⟨false, false, false, false, false, false, false, false⟩ then
    { ((t.rawWrite ioP1 t.savedP1).rawWrite ioLcdc t.savedLcdc).rawWrite ioTac t.savedTac with stopped := false }
  else t

/-- The halted step (R410). -/
def haltedStep (s : State) : State := interruptCheck { s with cycles := s.params.haltStepCycles.val }

/-- The instruction at PC: its bytes are read through the bus (R109, R141). -/
def fetchInstr (s : State) : Instr := decodeBytes (busRead s s.pc) (busRead s (s.pc + 1)) (busRead s (s.pc + 2))

/-- What the CPU step does after an instruction (R401): nothing after a decode failure (R408), else ageing and the check. -/
def afterInstr (s : State) : State := if s.fault.isSome then s else interruptCheck (agePending s)

/-- `CpuStep()` (R401): with a latched decode failure it only returns the sentinel -1 (R408). -/
def cpuStep (s : State) : Result :=
  if s.fault.isSome then .next { s with cycles := -1 }
  else if s.stopped then .next (stoppedStep s)
  else if s.halted then .next (haltedStep s)
  else
    match exec (fetchInstr s) s with
    | .next t => .next (afterInstr t)
    | .fault r => .fault r
    | .refused r => .refused r

/-! ### The system step (R400) -/

/-- The video update and then the timer update with the step's cycles; neither after a decode failure (R400, R408). -/
def devicesUpdate (s : State) : State :=
  if s.fault.isSome then s else timerUpdate s.cycles.toNat (ppuUpdate s.cycles.toNat s)

/-- The state the CPU step starts from: the host has acted, and no frame has been presented in this step. -/
def stepStart (s : State) : State := { takeHostInput s with presented := none }

/-- One system step (R400). A latched decode failure stops the machine. -/
def systemStep (s : State) : Result :=
  match s.fault with
  | some x => .fault (.decodeFault x.op x.addr)
  | none =>
    match cpuStep (stepStart s) with
    | .next t => .next (devicesUpdate t)
    | .fault r => .fault r
    | .refused r => .refused r

end Sys2Proof.Machine
end

