-- ==== Sys2Proof/Machine/Step.lean ====
section
/-! DEFINITION. One step of the machine (60_exceptions.md R400), and a state whose next step runs a given instruction. -/

namespace Sys2Proof.Machine

open Sys2Proof

/-- One system step: host input, CPU, video, timer (R400). -/
def step (s : State) : Host.Outcome State Fault Refusal := systemStep s

/-- `s` with the instruction of a word of spec/opcode_table.json stored where the next step fetches it, the machine neither
stopped, halted nor faulted. -/
def State.withFetchWord (s : State) (nbits w : Nat) : State := placeInstruction (tableBytes nbits w) s

end Sys2Proof.Machine
end

