-- ==== Sys2Proof/Machine/Selectors.lean ====
section
/-! DEFINITION. The families of instructions by operand code: for each shape of 40_loads.md to 45_cb.md, the instruction that
the operand codes of 30_encoding.md R144 to R147 and R151 name. Statements about a whole family are made with these. -/

namespace Sys2Proof.Machine

open Sys2Proof

/-- `LD r,r'` (R201). -/
def loadReg : Reg8 → Reg8 → Instr
  | .b, .b => .ldBB
  | .b, .c => .ldBC
  | .b, .d => .ldBD
  | .b, .e => .ldBE
  | .b, .h => .ldBH
  | .b, .l => .ldBL
  | .b, .a => .ldBA
  | .c, .b => .ldCB
  | .c, .c => .ldCC
  | .c, .d => .ldCD
  | .c, .e => .ldCE
  | .c, .h => .ldCH
  | .c, .l => .ldCL
  | .c, .a => .ldCA
  | .d, .b => .ldDB
  | .d, .c => .ldDC
  | .d, .d => .ldDD
  | .d, .e => .ldDE
  | .d, .h => .ldDH
  | .d, .l => .ldDL
  | .d, .a => .ldDA
  | .e, .b => .ldEB
  | .e, .c => .ldEC
  | .e, .d => .ldED
  | .e, .e => .ldEE
  | .e, .h => .ldEH
  | .e, .l => .ldEL
  | .e, .a => .ldEA
  | .h, .b => .ldHB
  | .h, .c => .ldHC
  | .h, .d => .ldHD
  | .h, .e => .ldHE
  | .h, .h => .ldHH
  | .h, .l => .ldHL
  | .h, .a => .ldHA
  | .l, .b => .ldLB
  | .l, .c => .ldLC
  | .l, .d => .ldLD
  | .l, .e => .ldLE
  | .l, .h => .ldLH
  | .l, .l => .ldLL
  | .l, .a => .ldLA
  | .a, .b => .ldAB
  | .a, .c => .ldAC
  | .a, .d => .ldAD
  | .a, .e => .ldAE
  | .a, .h => .ldAH
  | .a, .l => .ldAL
  | .a, .a => .ldAA

/-- `LD r,(HL)` (R202). -/
def loadRegMemHl : Reg8 → Instr
  | .b => .ldBMemHl
  | .c => .ldCMemHl
  | .d => .ldDMemHl
  | .e => .ldEMemHl
  | .h => .ldHMemHl
  | .l => .ldLMemHl
  | .a => .ldAMemHl

/-- `LD (HL),r` (R203). -/
def storeMemHl : Reg8 → Instr
  | .b => .ldMemHlB
  | .c => .ldMemHlC
  | .d => .ldMemHlD
  | .e => .ldMemHlE
  | .h => .ldMemHlH
  | .l => .ldMemHlL
  | .a => .ldMemHlA

/-- `LD r,d8` (R204). -/
def loadImm : Reg8 → Byte → Instr
  | .b, n => .ldBD8 n
  | .c, n => .ldCD8 n
  | .d, n => .ldDD8 n
  | .e, n => .ldED8 n
  | .h, n => .ldHD8 n
  | .l, n => .ldLD8 n
  | .a, n => .ldAD8 n

/-- `LD rr,d16` (R220). -/
def loadPairImm : Pair → Word → Instr
  | .bc, v => .ldBcD16 v
  | .de, v => .ldDeD16 v
  | .hl, v => .ldHlD16 v
  | .sp, v => .ldSpD16 v

/-- `PUSH rr` (R223). -/
def pushOf : StackPair → Instr
  | .bc => .pushBc
  | .de => .pushDe
  | .hl => .pushHl
  | .af => .pushAf

/-- `POP rr` (R224, R225). -/
def popOf : StackPair → Instr
  | .bc => .popBc
  | .de => .popDe
  | .hl => .popHl
  | .af => .popAf

/-- The eight ALU operations in their three operand forms (R250). -/
def aluOf : AluOp → AluSource → Instr
  | .add, .reg .b => .addAB
  | .add, .reg .c => .addAC
  | .add, .reg .d => .addAD
  | .add, .reg .e => .addAE
  | .add, .reg .h => .addAH
  | .add, .reg .l => .addAL
  | .add, .reg .a => .addAA
  | .add, .memHl => .addAMemHl
  | .add, .imm n => .addAD8 n
  | .adc, .reg .b => .adcAB
  | .adc, .reg .c => .adcAC
  | .adc, .reg .d => .adcAD
  | .adc, .reg .e => .adcAE
  | .adc, .reg .h => .adcAH
  | .adc, .reg .l => .adcAL
  | .adc, .reg .a => .adcAA
  | .adc, .memHl => .adcAMemHl
  | .adc, .imm n => .adcAD8 n
  | .sub, .reg .b => .subB
  | .sub, .reg .c => .subC
  | .sub, .reg .d => .subD
  | .sub, .reg .e => .subE
  | .sub, .reg .h => .subH
  | .sub, .reg .l => .subL
  | .sub, .reg .a => .subA
  | .sub, .memHl => .subMemHl
  | .sub, .imm n => .subD8 n
  | .sbc, .reg .b => .sbcAB
  | .sbc, .reg .c => .sbcAC
  | .sbc, .reg .d => .sbcAD
  | .sbc, .reg .e => .sbcAE
  | .sbc, .reg .h => .sbcAH
  | .sbc, .reg .l => .sbcAL
  | .sbc, .reg .a => .sbcAA
  | .sbc, .memHl => .sbcAMemHl
  | .sbc, .imm n => .sbcAD8 n
  | .and, .reg .b => .andB
  | .and, .reg .c => .andC
  | .and, .reg .d => .andD
  | .and, .reg .e => .andE
  | .and, .reg .h => .andH
  | .and, .reg .l => .andL
  | .and, .reg .a => .andA
  | .and, .memHl => .andMemHl
  | .and, .imm n => .andD8 n
  | .xor, .reg .b => .xorB
  | .xor, .reg .c => .xorC
  | .xor, .reg .d => .xorD
  | .xor, .reg .e => .xorE
  | .xor, .reg .h => .xorH
  | .xor, .reg .l => .xorL
  | .xor, .reg .a => .xorA
  | .xor, .memHl => .xorMemHl
  | .xor, .imm n => .xorD8 n
  | .or, .reg .b => .orB
  | .or, .reg .c => .orC
  | .or, .reg .d => .orD
  | .or, .reg .e => .orE
  | .or, .reg .h => .orH
  | .or, .reg .l => .orL
  | .or, .reg .a => .orA
  | .or, .memHl => .orMemHl
  | .or, .imm n => .orD8 n
  | .cp, .reg .b => .cpB
  | .cp, .reg .c => .cpC
  | .cp, .reg .d => .cpD
  | .cp, .reg .e => .cpE
  | .cp, .reg .h => .cpH
  | .cp, .reg .l => .cpL
  | .cp, .reg .a => .cpA
  | .cp, .memHl => .cpMemHl
  | .cp, .imm n => .cpD8 n

/-- `INC r` and `INC (HL)` (R259, R260). -/
def incOf : Operand8 → Instr
  | .reg .b => .incB
  | .reg .c => .incC
  | .reg .d => .incD
  | .reg .e => .incE
  | .reg .h => .incH
  | .reg .l => .incL
  | .reg .a => .incA
  | .memHl => .incMemHl

/-- `DEC r` and `DEC (HL)` (R261, R262). -/
def decOf : Operand8 → Instr
  | .reg .b => .decB
  | .reg .c => .decC
  | .reg .d => .decD
  | .reg .e => .decE
  | .reg .h => .decH
  | .reg .l => .decL
  | .reg .a => .decA
  | .memHl => .decMemHl

/-- `ADD HL,rr` (R300). -/
def addHlOf : Pair → Instr
  | .bc => .addHlBc
  | .de => .addHlDe
  | .hl => .addHlHl
  | .sp => .addHlSp

/-- `INC rr` (R301). -/
def incPairOf : Pair → Instr
  | .bc => .incBc
  | .de => .incDe
  | .hl => .incHl
  | .sp => .incSp

/-- `DEC rr` (R302). -/
def decPairOf : Pair → Instr
  | .bc => .decBc
  | .de => .decDe
  | .hl => .decHl
  | .sp => .decSp

/-- `JP cc,a16` (R322). -/
def jpOf : Cond → Word → Instr
  | .nz, a => .jpNzA16 a
  | .z, a => .jpZA16 a
  | .nc, a => .jpNcA16 a
  | .c, a => .jpCA16 a

/-- `JR cc,e8` (R325). -/
def jrOf : Cond → Byte → Instr
  | .nz, e => .jrNzE8 e
  | .z, e => .jrZE8 e
  | .nc, e => .jrNcE8 e
  | .c, e => .jrCE8 e

/-- `CALL cc,a16` (R327). -/
def callOf : Cond → Word → Instr
  | .nz, a => .callNzA16 a
  | .z, a => .callZA16 a
  | .nc, a => .callNcA16 a
  | .c, a => .callCA16 a

/-- `RET cc` (R329). -/
def retOf : Cond → Instr
  | .nz => .retNz
  | .z => .retZ
  | .nc => .retNc
  | .c => .retC

/-- `RST t` with `t = y`, for y up to 7 (R331). -/
def rstOf : Nat → Instr
  | 0 => .rst00
  | 1 => .rst08
  | 2 => .rst10
  | 3 => .rst18
  | 4 => .rst20
  | 5 => .rst28
  | 6 => .rst30
  | _ => .rst38

/-- The rotates, shifts and SWAP of the secondary map (R371 to R378). -/
def shiftOf : ShiftOp → Operand8 → Instr
  | .rlc, .reg .b => .rlcB
  | .rlc, .reg .c => .rlcC
  | .rlc, .reg .d => .rlcD
  | .rlc, .reg .e => .rlcE
  | .rlc, .reg .h => .rlcH
  | .rlc, .reg .l => .rlcL
  | .rlc, .reg .a => .rlcA
  | .rlc, .memHl => .rlcMemHl
  | .rrc, .reg .b => .rrcB
  | .rrc, .reg .c => .rrcC
  | .rrc, .reg .d => .rrcD
  | .rrc, .reg .e => .rrcE
  | .rrc, .reg .h => .rrcH
  | .rrc, .reg .l => .rrcL
  | .rrc, .reg .a => .rrcA
  | .rrc, .memHl => .rrcMemHl
  | .rl, .reg .b => .rlB
  | .rl, .reg .c => .rlC
  | .rl, .reg .d => .rlD
  | .rl, .reg .e => .rlE
  | .rl, .reg .h => .rlH
  | .rl, .reg .l => .rlL
  | .rl, .reg .a => .rlA
  | .rl, .memHl => .rlMemHl
  | .rr, .reg .b => .rrB
  | .rr, .reg .c => .rrC
  | .rr, .reg .d => .rrD
  | .rr, .reg .e => .rrE
  | .rr, .reg .h => .rrH
  | .rr, .reg .l => .rrL
  | .rr, .reg .a => .rrA
  | .rr, .memHl => .rrMemHl
  | .sla, .reg .b => .slaB
  | .sla, .reg .c => .slaC
  | .sla, .reg .d => .slaD
  | .sla, .reg .e => .slaE
  | .sla, .reg .h => .slaH
  | .sla, .reg .l => .slaL
  | .sla, .reg .a => .slaA
  | .sla, .memHl => .slaMemHl
  | .sra, .reg .b => .sraB
  | .sra, .reg .c => .sraC
  | .sra, .reg .d => .sraD
  | .sra, .reg .e => .sraE
  | .sra, .reg .h => .sraH
  | .sra, .reg .l => .sraL
  | .sra, .reg .a => .sraA
  | .sra, .memHl => .sraMemHl
  | .swap, .reg .b => .swapB
  | .swap, .reg .c => .swapC
  | .swap, .reg .d => .swapD
  | .swap, .reg .e => .swapE
  | .swap, .reg .h => .swapH
  | .swap, .reg .l => .swapL
  | .swap, .reg .a => .swapA
  | .swap, .memHl => .swapMemHl
  | .srl, .reg .b => .srlB
  | .srl, .reg .c => .srlC
  | .srl, .reg .d => .srlD
  | .srl, .reg .e => .srlE
  | .srl, .reg .h => .srlH
  | .srl, .reg .l => .srlL
  | .srl, .reg .a => .srlA
  | .srl, .memHl => .srlMemHl

/-- `BIT b,s`, for b up to 7 (R379). -/
def bitOf : Nat → Operand8 → Instr
  | 0, .reg .b => .bit0B
  | 0, .reg .c => .bit0C
  | 0, .reg .d => .bit0D
  | 0, .reg .e => .bit0E
  | 0, .reg .h => .bit0H
  | 0, .reg .l => .bit0L
  | 0, .reg .a => .bit0A
  | 0, .memHl => .bit0MemHl
  | 1, .reg .b => .bit1B
  | 1, .reg .c => .bit1C
  | 1, .reg .d => .bit1D
  | 1, .reg .e => .bit1E
  | 1, .reg .h => .bit1H
  | 1, .reg .l => .bit1L
  | 1, .reg .a => .bit1A
  | 1, .memHl => .bit1MemHl
  | 2, .reg .b => .bit2B
  | 2, .reg .c => .bit2C
  | 2, .reg .d => .bit2D
  | 2, .reg .e => .bit2E
  | 2, .reg .h => .bit2H
  | 2, .reg .l => .bit2L
  | 2, .reg .a => .bit2A
  | 2, .memHl => .bit2MemHl
  | 3, .reg .b => .bit3B
  | 3, .reg .c => .bit3C
  | 3, .reg .d => .bit3D
  | 3, .reg .e => .bit3E
  | 3, .reg .h => .bit3H
  | 3, .reg .l => .bit3L
  | 3, .reg .a => .bit3A
  | 3, .memHl => .bit3MemHl
  | 4, .reg .b => .bit4B
  | 4, .reg .c => .bit4C
  | 4, .reg .d => .bit4D
  | 4, .reg .e => .bit4E
  | 4, .reg .h => .bit4H
  | 4, .reg .l => .bit4L
  | 4, .reg .a => .bit4A
  | 4, .memHl => .bit4MemHl
  | 5, .reg .b => .bit5B
  | 5, .reg .c => .bit5C
  | 5, .reg .d => .bit5D
  | 5, .reg .e => .bit5E
  | 5, .reg .h => .bit5H
  | 5, .reg .l => .bit5L
  | 5, .reg .a => .bit5A
  | 5, .memHl => .bit5MemHl
  | 6, .reg .b => .bit6B
  | 6, .reg .c => .bit6C
  | 6, .reg .d => .bit6D
  | 6, .reg .e => .bit6E
  | 6, .reg .h => .bit6H
  | 6, .reg .l => .bit6L
  | 6, .reg .a => .bit6A
  | 6, .memHl => .bit6MemHl
  | _, .reg .b => .bit7B
  | _, .reg .c => .bit7C
  | _, .reg .d => .bit7D
  | _, .reg .e => .bit7E
  | _, .reg .h => .bit7H
  | _, .reg .l => .bit7L
  | _, .reg .a => .bit7A
  | _, .memHl => .bit7MemHl

/-- `RES b,s`, for b up to 7 (R380). -/
def resOf : Nat → Operand8 → Instr
  | 0, .reg .b => .res0B
  | 0, .reg .c => .res0C
  | 0, .reg .d => .res0D
  | 0, .reg .e => .res0E
  | 0, .reg .h => .res0H
  | 0, .reg .l => .res0L
  | 0, .reg .a => .res0A
  | 0, .memHl => .res0MemHl
  | 1, .reg .b => .res1B
  | 1, .reg .c => .res1C
  | 1, .reg .d => .res1D
  | 1, .reg .e => .res1E
  | 1, .reg .h => .res1H
  | 1, .reg .l => .res1L
  | 1, .reg .a => .res1A
  | 1, .memHl => .res1MemHl
  | 2, .reg .b => .res2B
  | 2, .reg .c => .res2C
  | 2, .reg .d => .res2D
  | 2, .reg .e => .res2E
  | 2, .reg .h => .res2H
  | 2, .reg .l => .res2L
  | 2, .reg .a => .res2A
  | 2, .memHl => .res2MemHl
  | 3, .reg .b => .res3B
  | 3, .reg .c => .res3C
  | 3, .reg .d => .res3D
  | 3, .reg .e => .res3E
  | 3, .reg .h => .res3H
  | 3, .reg .l => .res3L
  | 3, .reg .a => .res3A
  | 3, .memHl => .res3MemHl
  | 4, .reg .b => .res4B
  | 4, .reg .c => .res4C
  | 4, .reg .d => .res4D
  | 4, .reg .e => .res4E
  | 4, .reg .h => .res4H
  | 4, .reg .l => .res4L
  | 4, .reg .a => .res4A
  | 4, .memHl => .res4MemHl
  | 5, .reg .b => .res5B
  | 5, .reg .c => .res5C
  | 5, .reg .d => .res5D
  | 5, .reg .e => .res5E
  | 5, .reg .h => .res5H
  | 5, .reg .l => .res5L
  | 5, .reg .a => .res5A
  | 5, .memHl => .res5MemHl
  | 6, .reg .b => .res6B
  | 6, .reg .c => .res6C
  | 6, .reg .d => .res6D
  | 6, .reg .e => .res6E
  | 6, .reg .h => .res6H
  | 6, .reg .l => .res6L
  | 6, .reg .a => .res6A
  | 6, .memHl => .res6MemHl
  | _, .reg .b => .res7B
  | _, .reg .c => .res7C
  | _, .reg .d => .res7D
  | _, .reg .e => .res7E
  | _, .reg .h => .res7H
  | _, .reg .l => .res7L
  | _, .reg .a => .res7A
  | _, .memHl => .res7MemHl

/-- `SET b,s`, for b up to 7 (R381). -/
def setOf : Nat → Operand8 → Instr
  | 0, .reg .b => .set0B
  | 0, .reg .c => .set0C
  | 0, .reg .d => .set0D
  | 0, .reg .e => .set0E
  | 0, .reg .h => .set0H
  | 0, .reg .l => .set0L
  | 0, .reg .a => .set0A
  | 0, .memHl => .set0MemHl
  | 1, .reg .b => .set1B
  | 1, .reg .c => .set1C
  | 1, .reg .d => .set1D
  | 1, .reg .e => .set1E
  | 1, .reg .h => .set1H
  | 1, .reg .l => .set1L
  | 1, .reg .a => .set1A
  | 1, .memHl => .set1MemHl
  | 2, .reg .b => .set2B
  | 2, .reg .c => .set2C
  | 2, .reg .d => .set2D
  | 2, .reg .e => .set2E
  | 2, .reg .h => .set2H
  | 2, .reg .l => .set2L
  | 2, .reg .a => .set2A
  | 2, .memHl => .set2MemHl
  | 3, .reg .b => .set3B
  | 3, .reg .c => .set3C
  | 3, .reg .d => .set3D
  | 3, .reg .e => .set3E
  | 3, .reg .h => .set3H
  | 3, .reg .l => .set3L
  | 3, .reg .a => .set3A
  | 3, .memHl => .set3MemHl
  | 4, .reg .b => .set4B
  | 4, .reg .c => .set4C
  | 4, .reg .d => .set4D
  | 4, .reg .e => .set4E
  | 4, .reg .h => .set4H
  | 4, .reg .l => .set4L
  | 4, .reg .a => .set4A
  | 4, .memHl => .set4MemHl
  | 5, .reg .b => .set5B
  | 5, .reg .c => .set5C
  | 5, .reg .d => .set5D
  | 5, .reg .e => .set5E
  | 5, .reg .h => .set5H
  | 5, .reg .l => .set5L
  | 5, .reg .a => .set5A
  | 5, .memHl => .set5MemHl
  | 6, .reg .b => .set6B
  | 6, .reg .c => .set6C
  | 6, .reg .d => .set6D
  | 6, .reg .e => .set6E
  | 6, .reg .h => .set6H
  | 6, .reg .l => .set6L
  | 6, .reg .a => .set6A
  | 6, .memHl => .set6MemHl
  | _, .reg .b => .set7B
  | _, .reg .c => .set7C
  | _, .reg .d => .set7D
  | _, .reg .e => .set7E
  | _, .reg .h => .set7H
  | _, .reg .l => .set7L
  | _, .reg .a => .set7A
  | _, .memHl => .set7MemHl

/-- The eleven unassigned opcodes and their instructions (30_encoding.md R150). -/
def unassignedOpcodes : List (Byte × Instr) :=
  [(0xD3, .illegalD3), (0xDB, .illegalDB), (0xDD, .illegalDD), (0xE3, .illegalE3),
   (0xE4, .illegalE4), (0xEB, .illegalEB), (0xEC, .illegalEC), (0xED, .illegalED),
   (0xF4, .illegalF4), (0xFC, .illegalFC), (0xFD, .illegalFD)]

end Sys2Proof.Machine
end

