-- ==== Sys2Proof/Safety.lean ====
section
/-! DEFINITION. The terms the statements use: what every step keeps (10_state.md R64, R43), what a flag byte says, which
addresses an instruction stores to, and when the machine runs an instruction. -/

namespace Sys2Proof.Machine

open Sys2Proof

/-! ### Invariants -/

/-- Every storage of the state is in canonical form and lists nothing outside its range (R40, R41, R44). -/
def State.memoryWf (s : State) : Bool :=
  Memory.wf rawReset 0x10000 s.raw && Memory.wf zeroByte s.romLen s.romImage && Memory.wf zeroByte 0x8000 s.ramBanks &&
    Memory.wf blankRow 144 s.fb && s.fb.all (fun row => decide (row.2.length = 160))

/-- The invariants that hold between system steps: those of R64, `div_acc < 256` (R43), and the canonical form of the
storages. `ram_bank <= 3` and the shades 0 to 3 hold by their types. -/
structure State.Inv (s : State) : Prop where
  /-- F[3:0] = 0 (R31). -/
  flagsLow : s.f &&& 0x0F = 0
  /-- `line_acc < 456` (R441). -/
  lineAcc : s.lineAcc < 456
  /-- `LY <= 153` (R441). -/
  ly : (s.rawRead ioLy).toNat ≤ 153
  /-- `rom_bank != 0` (R91 to R97). -/
  romBank : s.romBank ≠ 0
  /-- `halted` and `stopped` are never both 1 (R351, R352). -/
  halt : ¬ (s.halted = true ∧ s.stopped = true)
  /-- `div_acc < 256` (R43). -/
  divAcc : s.divAcc < 256
  /-- The storages are in canonical form. -/
  memory : s.memoryWf = true

/-- The next step runs an instruction: no decode failure is latched, and the CPU is neither stopped nor halted (R400,
R401). -/
structure State.Running (s : State) : Prop where
  noFault : s.fault = none
  notStopped : s.stopped = false
  notHalted : s.halted = false

/-! ### Flags -/

/-- The flag byte holds exactly these flags, and F[3:0] is 0 (R31). -/
structure FlagsAre (f : Byte) (z n h c : Prop) : Prop where
  zero : f.getLsbD 7 = true ↔ z
  subtract : f.getLsbD 6 = true ↔ n
  halfCarry : f.getLsbD 5 = true ↔ h
  carry : f.getLsbD 4 = true ↔ c
  low : f &&& 0x0F = 0

/-! ### Stores -/

/-- The two addresses of a push, the high byte's first (20_memory.md R85). -/
def stackTop (s : State) : List Word := [s.sp - 1, s.sp - 2]

/-- The addresses an instruction stores to with `MemWrite`, in its order (files 40 to 45). An instruction that is not named
stores nothing; the statement about memory's frame is false of a storing instruction that is missing here. -/
def storedAt (i : Instr) (s : State) : List Word :=
  match i with
  | .ldMemBcA => [s.pair .bc]
  | .ldMemA16Sp a => [a, a + 1]
  | .ldMemDeA => [s.pair .de]
  | .ldMemHlIncA => [s.hl]
  | .ldMemHlDecA => [s.hl]
  | .incMemHl => [s.hl]
  | .decMemHl => [s.hl]
  | .ldMemHlD8 _ => [s.hl]
  | .ldMemHlB => [s.hl]
  | .ldMemHlC => [s.hl]
  | .ldMemHlD => [s.hl]
  | .ldMemHlE => [s.hl]
  | .ldMemHlH => [s.hl]
  | .ldMemHlL => [s.hl]
  | .ldMemHlA => [s.hl]
  | .callNzA16 _ => if s.cond .nz then stackTop s else []
  | .pushBc => stackTop s
  | .rst00 => stackTop s
  | .prefixCb c => if fieldZ c = 6 ∧ fieldX c ≠ 1 then [s.hl] else []
  | .callZA16 _ => if s.cond .z then stackTop s else []
  | .callA16 _ => stackTop s
  | .rst08 => stackTop s
  | .callNcA16 _ => if s.cond .nc then stackTop s else []
  | .pushDe => stackTop s
  | .rst10 => stackTop s
  | .callCA16 _ => if s.cond .c then stackTop s else []
  | .rst18 => stackTop s
  | .ldhMemA8A n => [highPage n]
  | .ldMemCA => [highPage s.c]
  | .pushHl => stackTop s
  | .rst20 => stackTop s
  | .ldMemA16A a => [a]
  | .rst28 => stackTop s
  | .pushAf => stackTop s
  | .rst30 => stackTop s
  | .rst38 => stackTop s
  | .rlcMemHl => [s.hl]
  | .rrcMemHl => [s.hl]
  | .rlMemHl => [s.hl]
  | .rrMemHl => [s.hl]
  | .slaMemHl => [s.hl]
  | .sraMemHl => [s.hl]
  | .swapMemHl => [s.hl]
  | .srlMemHl => [s.hl]
  | .res0MemHl => [s.hl]
  | .res1MemHl => [s.hl]
  | .res2MemHl => [s.hl]
  | .res3MemHl => [s.hl]
  | .res4MemHl => [s.hl]
  | .res5MemHl => [s.hl]
  | .res6MemHl => [s.hl]
  | .res7MemHl => [s.hl]
  | .set0MemHl => [s.hl]
  | .set1MemHl => [s.hl]
  | .set2MemHl => [s.hl]
  | .set3MemHl => [s.hl]
  | .set4MemHl => [s.hl]
  | .set5MemHl => [s.hl]
  | .set6MemHl => [s.hl]
  | .set7MemHl => [s.hl]
  | _ => []

/-- The address whose storage an address shares: echo RAM is work RAM (R78). -/
def homeOf (a : Word) : Word := if 0xE000 ≤ a ∧ a < 0xFE00 then a - 0x2000 else a

/-- A store to this address changes no more than the byte at it (R72): it is neither a bank-switch command (R89), nor LYC,
which runs the coincidence check (R101), nor DMA, which copies into OAM (R102). -/
def storesOneByte (a : Word) : Prop := 0x8000 ≤ a ∧ a ≠ 0xFF45 ∧ a ≠ 0xFF46

end Sys2Proof.Machine
end

