-- ==== Sys2Proof/Certificates/Slice0/Obligations.lean ====
section
/-! DEFINITION. The statements for the provers. A statement about an instruction says which instruction the spec's encoding
decodes to, that `exec` answers a next state, and what that whole state is; what is not replaced in it is unchanged. -/

open Sys2Proof Sys2Proof.Machine

/-! ### Registers and loads (10_state.md, 40_loads.md) -/

/-- R30, R31: a register reads as it was written and no other register changes; a pair is its two halves, the first letter
the high one; AF stores 0 in F[3:0]. -/
def Obligations.RegisterFile : Prop :=
  ∀ (s : State) (r q : Reg8) (p : Pair) (k : StackPair) (v : Byte) (w : Word),
    (s.setReg r v).reg q = (if q = r then v else s.reg q) ∧
    (s.setPair p w).pair p = w ∧
    s.bc.toNat = s.b.toNat * 256 + s.c.toNat ∧ s.de.toNat = s.d.toNat * 256 + s.e.toNat ∧
    s.hl.toNat = s.h.toNat * 256 + s.l.toNat ∧ s.af.toNat = s.a.toNat * 256 + s.f.toNat ∧
    (s.setStackPair k w).stackPair k = (if k = .af then w &&& 0xFFF0 else w) ∧
    (k ≠ .af → (s.setStackPair k w).af = s.af) ∧ (s.setPair p w).af = s.af

/-- R201. -/
def Obligations.LoadRegister : Prop :=
  ∀ (dst src : Reg8) (s : State) (b1 b2 : Byte),
    decodeBytes (BitVec.ofNat 8 (0x40 + 8 * dst.code + src.code)) b1 b2 = loadReg dst src ∧
    exec (loadReg dst src) s = .next { s.setReg dst (s.reg src) with pc := s.pc + 1, cycles := 4 } ∧
    (dst = src → exec (loadReg dst src) s = .next { s with pc := s.pc + 1, cycles := 4 })

/-- R202, R203, R205. The address is HL before the instruction; the store is `MemWrite`. -/
def Obligations.HlLoadsAndStores : Prop :=
  ∀ (r : Reg8) (n : Byte) (s : State) (b1 b2 : Byte),
    decodeBytes (BitVec.ofNat 8 (0x46 + 8 * r.code)) b1 b2 = loadRegMemHl r ∧
    exec (loadRegMemHl r) s = .next { s.setReg r (busRead s s.hl) with pc := s.pc + 1, cycles := 8 } ∧
    decodeBytes (BitVec.ofNat 8 (0x70 + r.code)) b1 b2 = storeMemHl r ∧
    exec (storeMemHl r) s = .next { busWrite s.hl (s.reg r) s with pc := s.pc + 1, cycles := 8 } ∧
    decodeBytes 0x36 n b2 = .ldMemHlD8 n ∧
    exec (.ldMemHlD8 n) s = .next { busWrite s.hl n s with pc := s.pc + 2, cycles := 12 }

/-- R204, R220, R222. A 16-bit immediate has its low byte first. -/
def Obligations.LoadImmediate : Prop :=
  ∀ (r : Reg8) (p : Pair) (n lo hi b1 b2 : Byte) (d : Word) (s : State),
    decodeBytes (BitVec.ofNat 8 (0x06 + 8 * r.code)) n b2 = loadImm r n ∧
    exec (loadImm r n) s = .next { s.setReg r n with pc := s.pc + 2, cycles := 8 } ∧
    decodeBytes (BitVec.ofNat 8 (0x01 + 16 * p.code)) lo hi = loadPairImm p (wordOf lo hi) ∧
    exec (loadPairImm p d) s = .next { s.setPair p d with pc := s.pc + 3, cycles := 12 } ∧
    decodeBytes 0xF9 b1 b2 = .ldSpHl ∧
    exec .ldSpHl s = .next { s with sp := s.hl, pc := s.pc + 1, cycles := 8 }

/-- R206, R207, R210, R212, R214, R216, R217. -/
def Obligations.LoadAccumulator : Prop :=
  ∀ (a : Word) (n lo hi b1 b2 : Byte) (s : State),
    decodeBytes 0x0A b1 b2 = .ldAMemBc ∧
    exec .ldAMemBc s = .next { s with a := busRead s s.bc, pc := s.pc + 1, cycles := 8 } ∧
    decodeBytes 0x1A b1 b2 = .ldAMemDe ∧
    exec .ldAMemDe s = .next { s with a := busRead s s.de, pc := s.pc + 1, cycles := 8 } ∧
    decodeBytes 0xFA lo hi = .ldAMemA16 (wordOf lo hi) ∧
    exec (.ldAMemA16 a) s = .next { s with a := busRead s a, pc := s.pc + 3, cycles := 16 } ∧
    decodeBytes 0xF0 n b2 = .ldhAMemA8 n ∧
    exec (.ldhAMemA8 n) s = .next { s with a := busRead s (0xFF00 + n.setWidth 16), pc := s.pc + 2, cycles := 12 } ∧
    decodeBytes 0xF2 b1 b2 = .ldAMemC ∧
    exec .ldAMemC s = .next { s with a := busRead s (0xFF00 + s.c.setWidth 16), pc := s.pc + 1, cycles := 8 } ∧
    decodeBytes 0x2A b1 b2 = .ldAMemHlInc ∧
    exec .ldAMemHlInc s =
      .next { s.setHl (s.hl + 1) with a := busRead s s.hl, pc := s.pc + 1, cycles := 8 } ∧
    decodeBytes 0x3A b1 b2 = .ldAMemHlDec ∧
    exec .ldAMemHlDec s =
      .next { s.setHl (s.hl - 1) with a := busRead s s.hl, pc := s.pc + 1, cycles := 8 }

/-- R208, R209, R211, R213, R215, R218, R219. -/
def Obligations.StoreAccumulator : Prop :=
  ∀ (a : Word) (n lo hi b1 b2 : Byte) (s : State),
    decodeBytes 0x02 b1 b2 = .ldMemBcA ∧
    exec .ldMemBcA s = .next { busWrite s.bc s.a s with pc := s.pc + 1, cycles := 8 } ∧
    decodeBytes 0x12 b1 b2 = .ldMemDeA ∧
    exec .ldMemDeA s = .next { busWrite s.de s.a s with pc := s.pc + 1, cycles := 8 } ∧
    decodeBytes 0xEA lo hi = .ldMemA16A (wordOf lo hi) ∧
    exec (.ldMemA16A a) s = .next { busWrite a s.a s with pc := s.pc + 3, cycles := 16 } ∧
    decodeBytes 0xE0 n b2 = .ldhMemA8A n ∧
    exec (.ldhMemA8A n) s = .next { busWrite (0xFF00 + n.setWidth 16) s.a s with pc := s.pc + 2, cycles := 12 } ∧
    decodeBytes 0xE2 b1 b2 = .ldMemCA ∧
    exec .ldMemCA s = .next { busWrite (0xFF00 + s.c.setWidth 16) s.a s with pc := s.pc + 1, cycles := 8 } ∧
    decodeBytes 0x22 b1 b2 = .ldMemHlIncA ∧
    exec .ldMemHlIncA s = .next { (busWrite s.hl s.a s).setHl (s.hl + 1) with pc := s.pc + 1, cycles := 8 } ∧
    decodeBytes 0x32 b1 b2 = .ldMemHlDecA ∧
    exec .ldMemHlDecA s = .next { (busWrite s.hl s.a s).setHl (s.hl - 1) with pc := s.pc + 1, cycles := 8 }

/-- R221 (rests on decision D1, the byte order, and D2, the order of the two writes). -/
def Obligations.StoreStackPointer : Prop :=
  ∀ (a : Word) (lo hi : Byte) (s : State),
    decodeBytes 0x08 lo hi = .ldMemA16Sp (wordOf lo hi) ∧
    exec (.ldMemA16Sp a) s = .next
      { busWrite (a + 1) (s.sp.extractLsb' 8 8) (busWrite a (s.sp.extractLsb' 0 8) s) with
        pc := s.pc + 3, cycles := 20 }

/-- R223, R85 (rests on decision D2): the high byte at SP - 1 first, then the low byte at SP - 2. -/
def Obligations.PushPair : Prop :=
  ∀ (p : StackPair) (s : State) (b1 b2 : Byte),
    decodeBytes (BitVec.ofNat 8 (0xC5 + 16 * p.code)) b1 b2 = pushOf p ∧
    exec (pushOf p) s = .next
      { busWrite (s.sp - 2) ((s.stackPair p).extractLsb' 0 8) (busWrite (s.sp - 1) ((s.stackPair p).extractLsb' 8 8) s) with
        sp := s.sp - 2, pc := s.pc + 1, cycles := 16 }

/-- R224, R225 (rests on decisions D2 and D17): the low byte at SP, the high byte at SP + 1; POP AF stores 0 in F[3:0]. -/
def Obligations.PopPair : Prop :=
  ∀ (p : StackPair) (s : State) (b1 b2 : Byte),
    let lo := busRead s s.sp
    let hi := busRead s (s.sp + 1)
    decodeBytes (BitVec.ofNat 8 (0xC1 + 16 * p.code)) b1 b2 = popOf p ∧
    exec (popOf .bc) s = .next { s with b := hi, c := lo, sp := s.sp + 2, pc := s.pc + 1, cycles := 12 } ∧
    exec (popOf .de) s = .next { s with d := hi, e := lo, sp := s.sp + 2, pc := s.pc + 1, cycles := 12 } ∧
    exec (popOf .hl) s = .next { s with h := hi, l := lo, sp := s.sp + 2, pc := s.pc + 1, cycles := 12 } ∧
    exec (popOf .af) s = .next { s with a := hi, f := lo &&& 0xF0, sp := s.sp + 2, pc := s.pc + 1, cycles := 12 }

/-! ### 8-bit arithmetic and logic (41_alu8.md) -/

/-- R250: the encodings of the eight operations, their operands, their costs, and that they write A and F only; CP keeps A. -/
def Obligations.AluForms : Prop :=
  ∀ (op : AluOp) (r : Reg8) (n b1 b2 : Byte) (s : State),
    decodeBytes (BitVec.ofNat 8 (0x80 + 8 * op.code + r.code)) b1 b2 = aluOf op (.reg r) ∧
    decodeBytes (BitVec.ofNat 8 (0x80 + 8 * op.code + 6)) b1 b2 = aluOf op .memHl ∧
    decodeBytes (BitVec.ofNat 8 (0xC6 + 8 * op.code)) n b2 = aluOf op (.imm n) ∧
    s.aluSource (.reg r) = s.reg r ∧ s.aluSource .memHl = busRead s s.hl ∧ s.aluSource (.imm n) = n ∧
    (∃ v f, exec (aluOf op (.reg r)) s = .next { s with a := v, f := f, pc := s.pc + 1, cycles := 4 } ∧
      (op = .cp → v = s.a)) ∧
    (∃ v f, exec (aluOf op .memHl) s = .next { s with a := v, f := f, pc := s.pc + 1, cycles := 8 } ∧
      (op = .cp → v = s.a)) ∧
    (∃ v f, exec (aluOf op (.imm n)) s = .next { s with a := v, f := f, pc := s.pc + 2, cycles := 8 } ∧
      (op = .cp → v = s.a))

/-- R251, R252. -/
def Obligations.AddAdc : Prop :=
  ∀ (src : AluSource) (s : State),
    let a := s.a.toNat
    let b := (s.aluSource src).toNat
    let cin := if s.f.getLsbD 4 then 1 else 0
    (∃ v f, exec (aluOf .add src) s =
        .next { s with a := v, f := f, pc := s.pc + BitVec.ofNat 16 src.length, cycles := src.cost } ∧
      v.toNat = (a + b) % 256 ∧ FlagsAre f (v = 0) False (a % 16 + b % 16 > 15) (a + b > 255)) ∧
    (∃ v f, exec (aluOf .adc src) s =
        .next { s with a := v, f := f, pc := s.pc + BitVec.ofNat 16 src.length, cycles := src.cost } ∧
      v.toNat = (a + b + cin) % 256 ∧ FlagsAre f (v = 0) False (a % 16 + b % 16 + cin > 15) (a + b + cin > 255))

/-- R253, R254, R258, under both values of `SUB_HALF_CARRY` (rests on decision D19). -/
def Obligations.SubSbcCp : Prop :=
  ∀ (src : AluSource) (s : State),
    let a := s.a.toNat
    let b := (s.aluSource src).toNat
    let cin := if s.f.getLsbD 4 then 1 else 0
    let standard := s.params.subHalfCarry = .standard
    (∃ v f, exec (aluOf .sub src) s =
        .next { s with a := v, f := f, pc := s.pc + BitVec.ofNat 16 src.length, cycles := src.cost } ∧
      v.toNat = (a + 256 - b) % 256 ∧ FlagsAre f (v = 0) True (standard ∧ a % 16 < b % 16) (b > a) ∧
      exec (aluOf .cp src) s =
        .next { s with f := f, pc := s.pc + BitVec.ofNat 16 src.length, cycles := src.cost }) ∧
    (∃ v f, exec (aluOf .sbc src) s =
        .next { s with a := v, f := f, pc := s.pc + BitVec.ofNat 16 src.length, cycles := src.cost } ∧
      v.toNat = (a + 512 - b - cin) % 256 ∧
      FlagsAre f (v = 0) True (standard ∧ a % 16 < b % 16 + cin) (b + cin > a))

/-- R255, R256, R257. -/
def Obligations.AndXorOr : Prop :=
  ∀ (src : AluSource) (s : State),
    (∃ v f, exec (aluOf .and src) s =
        .next { s with a := v, f := f, pc := s.pc + BitVec.ofNat 16 src.length, cycles := src.cost } ∧
      (∀ k, v.getLsbD k = (s.a.getLsbD k && (s.aluSource src).getLsbD k)) ∧ FlagsAre f (v = 0) False True False) ∧
    (∃ v f, exec (aluOf .xor src) s =
        .next { s with a := v, f := f, pc := s.pc + BitVec.ofNat 16 src.length, cycles := src.cost } ∧
      (∀ k, v.getLsbD k = Bool.xor (s.a.getLsbD k) ((s.aluSource src).getLsbD k)) ∧
      FlagsAre f (v = 0) False False False) ∧
    (∃ v f, exec (aluOf .or src) s =
        .next { s with a := v, f := f, pc := s.pc + BitVec.ofNat 16 src.length, cycles := src.cost } ∧
      (∀ k, v.getLsbD k = (s.a.getLsbD k || (s.aluSource src).getLsbD k)) ∧ FlagsAre f (v = 0) False False False)

/-- R259 to R262: C is unchanged; with `(HL)` the result is stored. -/
def Obligations.IncDecByte : Prop :=
  ∀ (o : Operand8) (r : Reg8) (s : State) (b1 b2 : Byte),
    decodeBytes (BitVec.ofNat 8 (0x04 + 8 * o.code)) b1 b2 = incOf o ∧
    decodeBytes (BitVec.ofNat 8 (0x05 + 8 * o.code)) b1 b2 = decOf o ∧
    (∃ v f, exec (incOf (.reg r)) s = .next { s.setReg r v with f := f, pc := s.pc + 1, cycles := 4 } ∧
      v.toNat = ((s.reg r).toNat + 1) % 256 ∧
      FlagsAre f (v = 0) False ((s.reg r).toNat % 16 = 15) (s.f.getLsbD 4 = true)) ∧
    (∃ v f, exec (decOf (.reg r)) s = .next { s.setReg r v with f := f, pc := s.pc + 1, cycles := 4 } ∧
      v.toNat = ((s.reg r).toNat + 255) % 256 ∧
      FlagsAre f (v = 0) True ((s.reg r).toNat % 16 = 0) (s.f.getLsbD 4 = true)) ∧
    (∃ v f, exec (incOf .memHl) s = .next { busWrite s.hl v s with f := f, pc := s.pc + 1, cycles := 12 } ∧
      v.toNat = ((busRead s s.hl).toNat + 1) % 256 ∧
      FlagsAre f (v = 0) False ((busRead s s.hl).toNat % 16 = 15) (s.f.getLsbD 4 = true)) ∧
    (∃ v f, exec (decOf .memHl) s = .next { busWrite s.hl v s with f := f, pc := s.pc + 1, cycles := 12 } ∧
      v.toNat = ((busRead s s.hl).toNat + 255) % 256 ∧
      FlagsAre f (v = 0) True ((busRead s s.hl).toNat % 16 = 0) (s.f.getLsbD 4 = true))

/-- R263 (rests on decision D20): both branches, on exact naturals. -/
def Obligations.DecimalAdjust : Prop :=
  ∀ (s : State) (b1 b2 : Byte),
    let a := s.a.toNat
    let n := s.f.getLsbD 6
    let h := s.f.getLsbD 5
    let c := s.f.getLsbD 4
    let up1 := if h = true ∨ a % 16 > 9 then a + 6 else a
    let up2 := if c = true ∨ up1 > 0x9F then up1 + 0x60 else up1
    let down1 := if h = true then (a + 256 - 6) % 256 else a
    let down2 := if c = true then (down1 + 256 - 0x60) % 256 else down1
    decodeBytes 0x27 b1 b2 = .daa ∧
    ∃ v f, exec .daa s = .next { s with a := v, f := f, pc := s.pc + 1, cycles := 4 } ∧
      v.toNat = (if n = true then down2 else up2 % 256) ∧
      FlagsAre f (v = 0) (n = true) False (if n = true then c = true else c = true ∨ up2 > 255)

/-- R264, R265, R266. -/
def Obligations.ComplementAndCarry : Prop :=
  ∀ (s : State) (b1 b2 : Byte),
    decodeBytes 0x2F b1 b2 = .cpl ∧ decodeBytes 0x37 b1 b2 = .scf ∧ decodeBytes 0x3F b1 b2 = .ccf ∧
    (∃ v f, exec .cpl s = .next { s with a := v, f := f, pc := s.pc + 1, cycles := 4 } ∧
      v.toNat = 255 - s.a.toNat ∧ FlagsAre f (s.f.getLsbD 7 = true) True True (s.f.getLsbD 4 = true)) ∧
    (∃ f, exec .scf s = .next { s with f := f, pc := s.pc + 1, cycles := 4 } ∧
      FlagsAre f (s.f.getLsbD 7 = true) False False True) ∧
    (∃ f, exec .ccf s = .next { s with f := f, pc := s.pc + 1, cycles := 4 } ∧
      FlagsAre f (s.f.getLsbD 7 = true) False False (s.f.getLsbD 4 = false))

/-- R267 to R270 (rests on decision D18): Z is 0 whatever the result. -/
def Obligations.AccumulatorRotates : Prop :=
  ∀ (s : State) (b1 b2 : Byte),
    let a := s.a.toNat
    let cin := if s.f.getLsbD 4 then 1 else 0
    decodeBytes 0x07 b1 b2 = .rlca ∧ decodeBytes 0x17 b1 b2 = .rla ∧ decodeBytes 0x0F b1 b2 = .rrca ∧
    decodeBytes 0x1F b1 b2 = .rra ∧
    (∃ v f, exec .rlca s = .next { s with a := v, f := f, pc := s.pc + 1, cycles := 4 } ∧
      v.toNat = 2 * a % 256 + a / 128 ∧ FlagsAre f False False False (a ≥ 128)) ∧
    (∃ v f, exec .rla s = .next { s with a := v, f := f, pc := s.pc + 1, cycles := 4 } ∧
      v.toNat = 2 * a % 256 + cin ∧ FlagsAre f False False False (a ≥ 128)) ∧
    (∃ v f, exec .rrca s = .next { s with a := v, f := f, pc := s.pc + 1, cycles := 4 } ∧
      v.toNat = a / 2 + 128 * (a % 2) ∧ FlagsAre f False False False (a % 2 = 1)) ∧
    (∃ v f, exec .rra s = .next { s with a := v, f := f, pc := s.pc + 1, cycles := 4 } ∧
      v.toNat = a / 2 + 128 * cin ∧ FlagsAre f False False False (a % 2 = 1))

/-! ### 16-bit arithmetic (42_alu16.md) -/

/-- R300: Z is unchanged. -/
def Obligations.AddHl : Prop :=
  ∀ (p : Pair) (s : State) (b1 b2 : Byte),
    let h := s.hl.toNat
    let v := (s.pair p).toNat
    decodeBytes (BitVec.ofNat 8 (0x09 + 16 * p.code)) b1 b2 = addHlOf p ∧
    ∃ r f, exec (addHlOf p) s = .next { s.setHl r with f := f, pc := s.pc + 1, cycles := 8 } ∧
      r.toNat = (h + v) % 65536 ∧
      FlagsAre f (s.f.getLsbD 7 = true) False (h % 4096 + v % 4096 > 4095) (h + v > 65535)

/-- R301, R302: no flag changes. -/
def Obligations.IncDecPair : Prop :=
  ∀ (p : Pair) (s : State) (b1 b2 : Byte),
    decodeBytes (BitVec.ofNat 8 (0x03 + 16 * p.code)) b1 b2 = incPairOf p ∧
    decodeBytes (BitVec.ofNat 8 (0x0B + 16 * p.code)) b1 b2 = decPairOf p ∧
    (∃ v, exec (incPairOf p) s = .next { s.setPair p v with pc := s.pc + 1, cycles := 8 } ∧
      v.toNat = ((s.pair p).toNat + 1) % 65536) ∧
    (∃ v, exec (decPairOf p) s = .next { s.setPair p v with pc := s.pc + 1, cycles := 8 } ∧
      v.toNat = ((s.pair p).toNat + 65535) % 65536)

/-- R303, R304: the sum takes the displacement as signed, the flags take it as unsigned. -/
def Obligations.StackPointerOffset : Prop :=
  ∀ (e b2 : Byte) (s : State),
    let lo := s.sp.toNat % 256
    decodeBytes 0xE8 e b2 = .addSpE8 e ∧ decodeBytes 0xF8 e b2 = .ldHlSpE8 e ∧
    ∃ v f, exec (.addSpE8 e) s = .next { s with sp := v, f := f, pc := s.pc + 2, cycles := 16 } ∧
      exec (.ldHlSpE8 e) s = .next { s.setHl v with f := f, pc := s.pc + 2, cycles := 12 } ∧
      (v.toNat : Int) = ((s.sp.toNat : Int) + e.toInt) % 65536 ∧
      FlagsAre f False False (lo % 16 + e.toNat % 16 > 15) (lo + e.toNat > 255)

/-! ### Control transfer (43_control.md) -/

/-- R321, R323, R324. -/
def Obligations.Jumps : Prop :=
  ∀ (a : Word) (e lo hi b1 b2 : Byte) (s : State),
    decodeBytes 0xC3 lo hi = .jpA16 (wordOf lo hi) ∧
    exec (.jpA16 a) s = .next { s with pc := a, cycles := 16 } ∧
    decodeBytes 0xE9 b1 b2 = .jpHl ∧
    exec .jpHl s = .next { s with pc := s.hl, cycles := 4 } ∧
    decodeBytes 0x18 e b2 = .jrE8 e ∧
    ∃ t, exec (.jrE8 e) s = .next { s with pc := t, cycles := 12 } ∧
      (t.toNat : Int) = ((s.pc.toNat : Int) + 2 + e.toInt) % 65536

/-- R322, R325, R146: the condition is a test of Z or C. -/
def Obligations.ConditionalJumps : Prop :=
  ∀ (cc : Cond) (a : Word) (e lo hi b2 : Byte) (s : State),
    let taken : Bool := match cc with
      | .nz => !s.f.getLsbD 7
      | .z => s.f.getLsbD 7
      | .nc => !s.f.getLsbD 4
      | .c => s.f.getLsbD 4
    decodeBytes (BitVec.ofNat 8 (0xC2 + 8 * cc.code)) lo hi = jpOf cc (wordOf lo hi) ∧
    exec (jpOf cc a) s =
      .next (if taken then { s with pc := a, cycles := 16 } else { s with pc := s.pc + 3, cycles := 12 }) ∧
    decodeBytes (BitVec.ofNat 8 (0x20 + 8 * cc.code)) e b2 = jrOf cc e ∧
    exec (jrOf cc e) s =
      .next (if taken then { s with pc := s.pc + 2 + e.signExtend 16, cycles := 12 }
        else { s with pc := s.pc + 2, cycles := 8 })

/-- R326, R331, R85 (rests on decision D2): the return address is the address after the instruction. -/
def Obligations.CallAndRst : Prop :=
  ∀ (a : Word) (y : Fin 8) (lo hi b1 b2 : Byte) (s : State),
    decodeBytes 0xCD lo hi = .callA16 (wordOf lo hi) ∧
    exec (.callA16 a) s = .next
      { busWrite (s.sp - 2) ((s.pc + 3).extractLsb' 0 8) (busWrite (s.sp - 1) ((s.pc + 3).extractLsb' 8 8) s) with
        sp := s.sp - 2, pc := a, cycles := 24 } ∧
    decodeBytes (BitVec.ofNat 8 (0xC7 + 8 * y.val)) b1 b2 = rstOf y.val ∧
    exec (rstOf y.val) s = .next
      { busWrite (s.sp - 2) ((s.pc + 1).extractLsb' 0 8) (busWrite (s.sp - 1) ((s.pc + 1).extractLsb' 8 8) s) with
        sp := s.sp - 2, pc := BitVec.ofNat 16 (8 * y.val), cycles := 16 }

/-- R327, R329 (rests on decision D6, the taken penalty of RET cc, and D2): a call that is not taken writes nothing. -/
def Obligations.ConditionalCallAndRet : Prop :=
  ∀ (cc : Cond) (a : Word) (lo hi b1 b2 : Byte) (s : State),
    decodeBytes (BitVec.ofNat 8 (0xC4 + 8 * cc.code)) lo hi = callOf cc (wordOf lo hi) ∧
    exec (callOf cc a) s = .next
      (if s.cond cc then
        { busWrite (s.sp - 2) ((s.pc + 3).extractLsb' 0 8) (busWrite (s.sp - 1) ((s.pc + 3).extractLsb' 8 8) s) with
          sp := s.sp - 2, pc := a, cycles := 24 }
      else { s with pc := s.pc + 3, cycles := 12 }) ∧
    decodeBytes (BitVec.ofNat 8 (0xC0 + 8 * cc.code)) b1 b2 = retOf cc ∧
    exec (retOf cc) s = .next
      (if s.cond cc then
        { s with pc := wordOf (busRead s s.sp) (busRead s (s.sp + 1)), sp := s.sp + 2, cycles := 20 }
      else { s with pc := s.pc + 1, cycles := 8 })

/-- R328, R330 (rests on decision D13): RETI sets IME at once and leaves a pending change as it is. -/
def Obligations.Returns : Prop :=
  ∀ (s : State) (b1 b2 : Byte),
    decodeBytes 0xC9 b1 b2 = .ret ∧ decodeBytes 0xD9 b1 b2 = .reti ∧
    ∃ p : Word, p.toNat = (busRead s (s.sp + 1)).toNat * 256 + (busRead s s.sp).toNat ∧
      exec .ret s = .next { s with pc := p, sp := s.sp + 2, cycles := 16 } ∧
      exec .reti s = .next { s with pc := p, sp := s.sp + 2, ime := true, cycles := 16 }

/-! ### System instructions (44_system.md) -/

/-- R350, R351, R353, R354 (rests on decisions D10 and D12): HALT leaves PC at its own opcode; DI and EI change IME only
later. -/
def Obligations.NopHaltDiEi : Prop :=
  ∀ (s : State) (b1 b2 : Byte),
    decodeBytes 0x00 b1 b2 = .nop ∧ decodeBytes 0x76 b1 b2 = .halt ∧ decodeBytes 0xF3 b1 b2 = .di ∧
    decodeBytes 0xFB b1 b2 = .ei ∧
    exec .nop s = .next { s with pc := s.pc + 1, cycles := 4 } ∧
    exec .halt s = .next { s with halted := true, cycles := 4 } ∧
    exec .di s = .next { s with imePend := .disable, imePendFresh := true, pc := s.pc + 1, cycles := 4 } ∧
    exec .ei s = .next { s with imePend := .enable, imePendFresh := true, pc := s.pc + 1, cycles := 4 }

/-- R352 (rests on decisions D15, D16 and D59): what STOP saves, forces and turns off, and that no other byte changes. The
values of LCDC and TAC after it need the canonical form of `Raw`. -/
def Obligations.Stop : Prop :=
  ∀ (s : State) (b1 b2 : Byte),
    decodeBytes 0x10 b1 b2 = .stop ∧
    ∃ t, exec .stop s = .next t ∧
      t = { s with
        savedP1 := s.rawRead 0xFF00, savedLcdc := s.rawRead 0xFF40, savedTac := s.rawRead 0xFF07,
        pressed := ⟨true, true, true, true, true, true, true, true⟩, stopped := true, raw := t.raw,
        pc := s.pc + (if s.params.stopLength = .two then 2 else 1), cycles := 4 } ∧
      (∀ n, n ≠ 0xFF40 → n ≠ 0xFF07 → t.rawRead n = s.rawRead n) ∧
      (s.memoryWf = true →
        t.rawRead 0xFF40 = s.rawRead 0xFF40 &&& 0x7F ∧ t.rawRead 0xFF07 = s.rawRead 0xFF07 &&& 0xFB)

/-- R355, R151: the secondary opcode selects the instruction; the prefix adds nothing of its own. -/
def Obligations.PrefixCb : Prop :=
  ∀ (c b2 : Byte) (s : State),
    decodeBytes 0xCB c b2 = decodeSecondary c ∧
    exec (.prefixCb c) s = exec (decodeSecondary c) s ∧
    ∃ t, exec (.prefixCb c) s = .next t ∧ t.pc = s.pc + 2

/-- R356, R408, R150 (rests on decision D4): the eleven unassigned opcodes under each policy. -/
def Obligations.Unassigned : Prop :=
  ∀ (op : Byte) (i : Instr) (s : State) (b1 b2 : Byte), (op, i) ∈ unassignedOpcodes →
    decodeBytes op b1 b2 = i ∧
    exec i s = .next (match s.params.illegalOpcodePolicy with
      | .fault => { s with fault := some ⟨op, s.pc⟩, pc := s.pc + 1, cycles := -1 }
      | .nopAdvance => { s with pc := s.pc + 1, cycles := s.params.illegalNopCycles })

/-! ### Secondary instructions (45_cb.md) -/

/-- R371 to R378, R370: result and flags of the rotates, shifts and SWAP, written back to a register or to `(HL)`. -/
def Obligations.CbShifts : Prop :=
  ∀ (op : ShiftOp) (o : Operand8) (s : State) (b2 : Byte),
    let v := (s.operand o).toNat
    let cin := if s.f.getLsbD 4 then 1 else 0
    decodeBytes 0xCB (BitVec.ofNat 8 (8 * op.code + o.code)) b2 = shiftOf op o ∧
    ∃ r f, exec (shiftOf op o) s =
        .next { s.setOperand o r with f := f, pc := s.pc + 2, cycles := if o = .memHl then 16 else 8 } ∧
      r.toNat = (match op with
        | .rlc => 2 * v % 256 + v / 128
        | .rrc => v / 2 + 128 * (v % 2)
        | .rl => 2 * v % 256 + cin
        | .rr => v / 2 + 128 * cin
        | .sla => 2 * v % 256
        | .sra => v / 2 + 128 * (v / 128)
        | .swap => v % 16 * 16 + v / 16
        | .srl => v / 2) ∧
      FlagsAre f (r = 0) False False (match op with
        | .rlc => v ≥ 128
        | .rrc => v % 2 = 1
        | .rl => v ≥ 128
        | .rr => v % 2 = 1
        | .sla => v ≥ 128
        | .sra => v % 2 = 1
        | .swap => False
        | .srl => v % 2 = 1)

/-- R379, R380, R381: BIT writes F only; RES and SET write one bit of the operand and no flag. -/
def Obligations.CbBitResSet : Prop :=
  ∀ (b : Fin 8) (o : Operand8) (s : State) (b2 : Byte),
    decodeBytes 0xCB (BitVec.ofNat 8 (0x40 + 8 * b.val + o.code)) b2 = bitOf b.val o ∧
    decodeBytes 0xCB (BitVec.ofNat 8 (0x80 + 8 * b.val + o.code)) b2 = resOf b.val o ∧
    decodeBytes 0xCB (BitVec.ofNat 8 (0xC0 + 8 * b.val + o.code)) b2 = setOf b.val o ∧
    (∃ f, exec (bitOf b.val o) s =
        .next { s with f := f, pc := s.pc + 2, cycles := if o = .memHl then 12 else 8 } ∧
      FlagsAre f ((s.operand o).getLsbD b.val = false) False True (s.f.getLsbD 4 = true)) ∧
    (∃ r, exec (resOf b.val o) s =
        .next { s.setOperand o r with pc := s.pc + 2, cycles := if o = .memHl then 16 else 8 } ∧
      ∀ k, r.getLsbD k = if k = b.val then false else (s.operand o).getLsbD k) ∧
    (∃ r, exec (setOf b.val o) s =
        .next { s.setOperand o r with pc := s.pc + 2, cycles := if o = .memHl then 16 else 8 } ∧
      ∀ k, r.getLsbD k = if k = b.val then true else (s.operand o).getLsbD k)

/-! ### Memory (20_memory.md) -/

/-- R72, R87: for every instruction but STOP, every address reads as before, outside the bytes it stores to. A store that is a
bank-switch command, an LYC write or a DMA write does more; the statements about those say what. -/
def Obligations.MemoryFrame : Prop :=
  ∀ (i : Instr) (s t : State), i ≠ .stop → exec i s = .next t → (∀ w ∈ storedAt i s, storesOneByte w) →
    ∀ x, (∀ w ∈ storedAt i s, homeOf x ≠ homeOf w) → busRead t x = busRead s x

/-- R71: what a read returns, region by region (the end of OAM and the bank past the image rest on decisions D22 and D34).
That P1 comes before the stub case, when `CGB_STUB_SET` names 0xFF00, is the model's choice, log entry 17. -/
def Obligations.ReadDecoder : Prop :=
  ∀ (s : State) (a : Word),
    let n := a.toNat
    let off := s.romBank.toNat * 0x4000 + (n - 0x4000)
    busRead s a =
      if n < 0x4000 then s.rawRead n
      else if n < 0x8000 then (if off < s.romLen then Memory.read (fun _ => 0) s.romImage off else 0xFF)
      else if n < 0xA000 then s.rawRead n
      else if n < 0xC000 then
        (if s.ramEnabled then Memory.read (fun _ => 0) s.ramBanks (s.ramBank.toNat * 0x2000 + (n - 0xA000)) else 0xFF)
      else if n < 0xE000 then s.rawRead n
      else if n < 0xFE00 then s.rawRead (n - 0x2000)
      else if n < 0xFEA0 then s.rawRead n
      else if n < 0xFF00 then 0xFF
      else if n = 0xFF00 then (s.rawRead 0xFF00 &&& 0xF0) ||| joypadNibble (s.rawRead 0xFF00) s.pressed
      else if n < 0xFF80 ∧ n ∈ s.params.cgbStubSet then 0xFF
      else s.rawRead n

/-- R75 to R79, R82, R83, R106: plain storage reads back as written, and echo RAM is the same storage as work RAM. -/
def Obligations.StorageRoundTrip : Prop :=
  ∀ (s : State) (a : Word) (v : Byte), s.memoryWf = true →
    let n := a.toNat
    ((0x8000 ≤ n ∧ n < 0xA000 ∨ 0xC000 ≤ n ∧ n < 0xFEA0 ∨ 0xFF80 ≤ n ∨
        (0xA000 ≤ n ∧ n < 0xC000 ∧ s.ramEnabled = true) ∨
        (0xFF00 < n ∧ n < 0xFF80 ∧ n ∉ s.params.cgbStubSet ∧ n ∉ [0xFF04, 0xFF41, 0xFF44, 0xFF45, 0xFF46])) →
      busRead (busWrite a v s) a = v) ∧
    (0xE000 ≤ n ∧ n < 0xFE00 → busWrite a v s = busWrite (a - 0x2000) v s ∧ busRead s a = busRead s (a - 0x2000))

/-- R89, R73, R76, R80: a ROM-only cartridge drops every write to 0x0000-0x7FFF; no write there ever changes storage or what
ROM bank 0 shows; the unusable area and disabled RAM read 0xFF and drop writes. -/
def Obligations.DroppedWrites : Prop :=
  ∀ (s : State) (a x : Word) (v : Byte),
    (a.toNat < 0x8000 → s.family = .noMbc → busWrite a v s = s) ∧
    (a.toNat < 0x8000 → busWrite a v s =
      { s with
        romBank := (busWrite a v s).romBank, ramBank := (busWrite a v s).ramBank,
        ramEnabled := (busWrite a v s).ramEnabled, romBankingMode := (busWrite a v s).romBankingMode }) ∧
    (a.toNat < 0x8000 → x.toNat < 0x4000 → busRead (busWrite a v s) x = busRead s x) ∧
    (0xFEA0 ≤ a.toNat ∧ a.toNat < 0xFF00 → busWrite a v s = s ∧ busRead s a = 0xFF) ∧
    (0xA000 ≤ a.toNat ∧ a.toNat < 0xC000 → s.ramEnabled = false → busWrite a v s = s ∧ busRead s a = 0xFF)

/-- R90 to R93 (rests on decision D31): MBC1's four registers. -/
def Obligations.Mbc1 : Prop :=
  ∀ (s : State) (a : Word) (v : Byte), s.family = .mbc1 → a.toNat < 0x8000 →
    ∃ bank ram en mode, busWrite a v s =
        { s with romBank := bank, ramBank := ram, ramEnabled := en, romBankingMode := mode } ∧
      (let n := a.toNat
       let old := s.romBank.toNat
       let low := old / 32 % 4 * 32 + v.toNat % 32
       let high := old % 32 + v.toNat % 4 * 32
       if n < 0x2000 then
         bank = s.romBank ∧ ram = s.ramBank ∧ mode = s.romBankingMode ∧
           en = (if v.toNat % 16 = 10 then true else if v.toNat % 16 = 0 then false else s.ramEnabled)
       else if n < 0x4000 then
         ram = s.ramBank ∧ mode = s.romBankingMode ∧ en = s.ramEnabled ∧ bank.toNat = (if low = 0 then 1 else low)
       else if n < 0x6000 then
         mode = s.romBankingMode ∧ en = s.ramEnabled ∧
           (if s.romBankingMode = true then ram = s.ramBank ∧ bank.toNat = (if high = 0 then 1 else high)
            else bank = s.romBank ∧ ram.toNat = v.toNat % 4)
       else
         bank = s.romBank ∧ en = s.ramEnabled ∧ mode = decide (v.toNat % 2 = 0) ∧
           ram = (if v.toNat % 2 = 0 then 0 else s.ramBank))

/-- R94 to R97 (rests on decisions D32 and D33): the registers of MBC2 and MBC3. -/
def Obligations.Mbc2AndMbc3 : Prop :=
  ∀ (s : State) (a : Word) (v : Byte), s.family = .mbc2 ∨ s.family = .mbc3 → a.toNat < 0x8000 →
    ∃ bank ram en, busWrite a v s = { s with romBank := bank, ramBank := ram, ramEnabled := en } ∧
      (let n := a.toNat
       let field := if s.family = .mbc2 then v.toNat % 16 else v.toNat % 128
       if n < 0x2000 then
         bank = s.romBank ∧ ram = s.ramBank ∧
           en = (if s.family = .mbc2 ∧ n / 256 % 2 = 1 then s.ramEnabled
             else if v.toNat % 16 = 10 then true else if v.toNat % 16 = 0 then false else s.ramEnabled)
       else if n < 0x4000 then
         ram = s.ramBank ∧ en = s.ramEnabled ∧ bank.toNat = (if field = 0 then 1 else field)
       else
         bank = s.romBank ∧ en = s.ramEnabled ∧
           (if s.family = .mbc3 ∧ n < 0x6000 ∧ v.toNat ≤ 3 then ram.toNat = v.toNat else ram = s.ramBank))

/-- R98, R99, R430, R45 (rests on decisions D36, D37 and D53): the P1 register, and a button update, which requests the joypad
interrupt exactly when a button of a selected group goes down. That 0xFF00 is P1 even when `CGB_STUB_SET` names it is the
model's choice, log entry 17. -/
def Obligations.Joypad : Prop :=
  ∀ (s : State) (v : Byte) (new : Buttons),
    let p1 := s.rawRead 0xFF00
    let k := s.pressed
    let dirs := p1.getLsbD 4 = false
    let btns := p1.getLsbD 5 = false
    let r := busRead s 0xFF00
    (∀ j, 4 ≤ j → r.getLsbD j = p1.getLsbD j) ∧
    (r.getLsbD 0 = false ↔ dirs ∧ k.right = true ∨ btns ∧ k.a = true) ∧
    (r.getLsbD 1 = false ↔ dirs ∧ k.left = true ∨ btns ∧ k.b = true) ∧
    (r.getLsbD 2 = false ↔ dirs ∧ k.up = true ∨ btns ∧ k.select = true) ∧
    (r.getLsbD 3 = false ↔ dirs ∧ k.down = true ∨ btns ∧ k.start = true) ∧
    busWrite 0xFF00 v s = s.rawWrite 0xFF00 ((v &&& 0xF0) ||| (p1 &&& 0x0F)) ∧
    (let goesDown := dirs ∧ (k.right = false ∧ new.right = true ∨ k.left = false ∧ new.left = true ∨
          k.up = false ∧ new.up = true ∨ k.down = false ∧ new.down = true) ∨
        btns ∧ (k.a = false ∧ new.a = true ∨ k.b = false ∧ new.b = true ∨
          k.select = false ∧ new.select = true ∨ k.start = false ∧ new.start = true)
     (goesDown → setButtons new s = { s.rawWrite 0xFF0F (s.rawRead 0xFF0F ||| 0x10) with pressed := new }) ∧
     (¬ goesDown → setButtons new s = { s with pressed := new }))

/-- R100, R101, R103, R104, R105, R444 (rests on decisions D23, D25, D26, D28 and D42): the writes of DIV, STAT, LY, LYC and
the CGB stubs. -/
def Obligations.RegisterWrites : Prop :=
  ∀ (s : State) (a : Word) (v : Byte),
    (∀ n ∈ [0xFF04, 0xFF41, 0xFF44, 0xFF45, 0xFF46], n ∉ s.params.cgbStubSet) →
    busWrite 0xFF04 v s = s.rawWrite 0xFF04 0 ∧
    busWrite 0xFF41 v s = s.rawWrite 0xFF41 ((v &&& 0xF8) ||| (s.rawRead 0xFF41 &&& 0x07)) ∧
    busWrite 0xFF44 v s = (if s.params.lyWrite = .reset then s.rawWrite 0xFF44 0 else s) ∧
    (0xFF00 < a.toNat → a.toNat < 0xFF80 → a.toNat ∈ s.params.cgbStubSet → busWrite a v s = s ∧ busRead s a = 0xFF) ∧
    (s.memoryWf = true →
      let t := busWrite 0xFF45 v s
      let hit := s.rawRead 0xFF44 = v
      t = { s with raw := t.raw } ∧ t.rawRead 0xFF45 = v ∧
      t.rawRead 0xFF41 = (if hit then s.rawRead 0xFF41 ||| 0x04 else s.rawRead 0xFF41 &&& 0xFB) ∧
      t.rawRead 0xFF0F = (if hit ∧ (s.rawRead 0xFF41).getLsbD 6 = true then s.rawRead 0xFF0F ||| 0x02
        else s.rawRead 0xFF0F) ∧
      ∀ n, n ≠ 0xFF45 → n ≠ 0xFF41 → n ≠ 0xFF0F → t.rawRead n = s.rawRead n)

/-- R102 (rests on decision D27): the DMA stores the byte written and copies 0xA0 bytes read through the bus; nothing else
changes. The source bytes are those that the bus shows once the DMA register holds `v`. -/
def Obligations.OamDma : Prop :=
  ∀ (s : State) (v : Byte), s.memoryWf = true → 0xFF46 ∉ s.params.cgbStubSet →
    let t := busWrite 0xFF46 v s
    t = { s with raw := t.raw } ∧ t.rawRead 0xFF46 = v ∧
    (∀ i, i < 0xA0 →
      t.rawRead (0xFE00 + i) = busRead (s.rawWrite 0xFF46 v) (BitVec.ofNat 16 (v.toNat * 256 + i))) ∧
    (∀ n, n < 0xFE00 ∨ 0xFEA0 ≤ n → n ≠ 0xFF46 → t.rawRead n = s.rawRead n)

/-! ### Interrupts and the step (60_exceptions.md) -/

/-- R405, R85 (rests on decisions D2, D8 and D60): service entry. IF is read after the push, which may have written it. -/
def Obligations.InterruptService : Prop :=
  ∀ (s : State) (i : Fin 5),
    let u := busWrite (s.sp - 2) (s.pc.extractLsb' 0 8) (busWrite (s.sp - 1) (s.pc.extractLsb' 8 8) s)
    let t := serviceInterrupt i.val s
    t = { u with
      raw := t.raw, sp := s.sp - 2, ime := false, imePend := .noChange, imePendFresh := false,
      pc := BitVec.ofNat 16 (0x40 + 8 * i.val), cycles := s.cycles + s.params.intServiceCycles } ∧
    (∀ n, n ≠ 0xFF0F → t.rawRead n = u.rawRead n) ∧
    (s.memoryWf = true → ∀ k, (t.rawRead 0xFF0F).getLsbD k =
      if k = i.val then false else (u.rawRead 0xFF0F).getLsbD k)

/-- R403, R404 (rests on decisions D11 and D55): the check of a CPU that is not halted services the lowest enabled request
when IME is set, and nothing else; a halted CPU stays halted or wakes with PC + 1 and is then checked. -/
def Obligations.InterruptCheck : Prop :=
  ∀ (s : State),
    let p := s.rawRead 0xFFFF &&& s.rawRead 0xFF0F &&& 0x1F
    let w := match s.params.haltWakeMask with
      | .ifOnly => s.rawRead 0xFF0F &&& 0x1F
      | .ieAndIf => p
    (s.halted = false → s.ime = false ∨ p = 0 → interruptCheck s = s) ∧
    (s.halted = false → s.ime = true → ∀ i < 5, p.getLsbD i = true → (∀ j < i, p.getLsbD j = false) →
      interruptCheck s = serviceInterrupt i s) ∧
    (s.halted = true → w = 0 → interruptCheck s = s) ∧
    (s.halted = true → w ≠ 0 → interruptCheck s = interruptCheck { s with halted := false, pc := s.pc + 1 })

/-- R402, R35, R354 (rests on decision D12): a pending change ages once and then reaches IME; EI's own CPU step leaves IME
as it is. -/
def Obligations.PendingIme : Prop :=
  ∀ (s : State),
    (s.imePend = .noChange → agePending s = s) ∧
    (s.imePend ≠ .noChange → s.imePendFresh = true → agePending s = { s with imePendFresh := false }) ∧
    (s.imePend = .enable → s.imePendFresh = false → agePending s = { s with ime := true, imePend := .noChange }) ∧
    (s.imePend = .disable → s.imePendFresh = false → agePending s = { s with ime := false, imePend := .noChange }) ∧
    (s.Running → s.ime = false → fetchInstr s = .ei →
      cpuStep s = .next { s with imePend := .enable, imePendFresh := false, pc := s.pc + 1, cycles := 4 })

/-- R400, R401, R430, R408 (rests on decision D53, the place of the host's input, and log entry 4, its form): a step of a
running machine whose bytes at PC decode to an instruction is the host's input, `exec` of that instruction, and then, unless
a decode failure was latched, the ageing, the interrupt check, the video and the timer. The host's input is the updates
that the schedule holds for this step, in their order, and uses that entry up. -/
def Obligations.StepRunsDecodedInstruction : Prop :=
  (∀ s : State, s.buttonSchedule = [] → takeHostInput s = s) ∧
  (∀ (s : State) (now : List Buttons) (later : List (List Buttons)), s.buttonSchedule = now :: later →
    takeHostInput s = now.foldl (fun u new => setButtons new u) { s with buttonSchedule := later }) ∧
  ∀ (s : State) (i : Instr) (rest : List Byte), s.Running →
    let s0 := { takeHostInput s with presented := none }
    decode [busRead s0 s0.pc, busRead s0 (s0.pc + 1), busRead s0 (s0.pc + 2)] = .ok (i, rest) →
    i.wellFormed = true ∧ ∃ t, exec i s0 = .next t ∧
      (t.fault ≠ none → step s = .next t) ∧
      (t.fault = none →
        let u := interruptCheck (agePending t)
        step s = .next (timerUpdate u.cycles.toNat (ppuUpdate u.cycles.toNat u)))

/-- R410, R403, R401 (rests on decisions D9, D10 and D11): a halted CPU step is the interrupt check and nothing else, and a
halted step is the host's input, that check, the video and the timer. It fetches nothing and ages nothing; it waits, wakes,
or wakes and services. What the service writes, the two pushed bytes among it, is `serviceInterrupt`'s
(InterruptService). -/
def Obligations.HaltedStep : Prop :=
  ∀ (s : State), s.fault = none → s.stopped = false → s.halted = true →
    let s0 := stepStart s
    let w := wakeRequests s0
    let p := enabledRequests s0
    let u := interruptCheck { s0 with cycles := s.params.haltStepCycles.val }
    let t := timerUpdate u.cycles.toNat (ppuUpdate u.cycles.toNat u)
    let serviced := w ≠ 0 ∧ s.ime = true ∧ p ≠ 0
    cpuStep s = .next (interruptCheck { s with cycles := s.params.haltStepCycles.val }) ∧
    step s = .next t ∧
    t.a = s.a ∧ t.f = s.f ∧ t.b = s.b ∧ t.c = s.c ∧ t.d = s.d ∧ t.e = s.e ∧ t.h = s.h ∧ t.l = s.l ∧
    t.imePend = (if serviced then .noChange else s.imePend) ∧
    t.imePendFresh = (if serviced then false else s.imePendFresh) ∧
    (w = 0 → t.pc = s.pc ∧ t.sp = s.sp ∧ t.halted = true ∧ t.ime = s.ime ∧ t.cycles = s.params.haltStepCycles.val) ∧
    (w ≠ 0 → s.ime = false ∨ p = 0 →
      t.pc = s.pc + 1 ∧ t.sp = s.sp ∧ t.halted = false ∧ t.ime = s.ime ∧ t.cycles = s.params.haltStepCycles.val) ∧
    (serviced →
      (∃ i < 5, p.getLsbD i = true ∧ (∀ j < i, p.getLsbD j = false) ∧ t.pc = BitVec.ofNat 16 (0x40 + 8 * i) ∧
        u = serviceInterrupt i { s0 with halted := false, pc := s.pc + 1, cycles := s.params.haltStepCycles.val }) ∧
      t.sp = s.sp - 2 ∧ t.halted = false ∧ t.ime = false ∧
      t.cycles = s.params.haltStepCycles.val + s.params.intServiceCycles)

/-- R411 (rests on decisions D9, D16, D52 and D59): a stopped machine runs no instruction and checks no interrupt; once every
button is released, P1, LCDC and TAC get their saved values back. -/
def Obligations.StoppedStep : Prop :=
  ∀ (s : State), s.fault = none → s.stopped = true →
    let t := stoppedStep s
    let released := s.pressed = ⟨false, false, false, false, false, false, false, false⟩
    cpuStep s = .next t ∧
    (¬ released → t = { s with cycles := s.params.stopStepCycles.val }) ∧
    (released → t = { s with stopped := false, raw := t.raw, cycles := s.params.stopStepCycles.val } ∧
      (∀ n, n ≠ 0xFF00 → n ≠ 0xFF40 → n ≠ 0xFF07 → t.rawRead n = s.rawRead n) ∧
      (s.memoryWf = true →
        t.rawRead 0xFF00 = s.savedP1 ∧ t.rawRead 0xFF40 = s.savedLcdc ∧ t.rawRead 0xFF07 = s.savedTac))

/-- R400, R401, R408, R409, R38 (rests on decisions D4 and D54, and log entry 7): a step that runs into an unassigned opcode
under the fault policy latches the failure, does no video or timer update, and is the last one: a system step of a machine
with a latched failure stops, and a CPU step of it returns -1 and changes nothing else. -/
def Obligations.DecodeFailureStops : Prop :=
  (∀ (s : State) (op : Byte) (i : Instr), s.Running → s.params.illegalOpcodePolicy = .fault →
    (op, i) ∈ unassignedOpcodes → busRead (stepStart s) s.pc = op →
    ∃ t, step s = .next t ∧
      t = { stepStart s with fault := some ⟨op, s.pc⟩, pc := s.pc + 1, cycles := -1 } ∧
      step t = .fault (.decodeFault op s.pc) ∧ cpuStep t = .next t ∧
      diagnosticDump t = some ⟨s.a, s.f, s.b, s.c, s.d, s.e, s.h, s.l, s.sp, s.pc + 1, s.ime, op, s.pc⟩) ∧
  ∀ (s : State) (op : Byte) (addr : Word), s.fault = some ⟨op, addr⟩ →
    step s = .fault (.decodeFault op addr) ∧ cpuStep s = .next { s with cycles := -1 }

/-! ### Devices (60_exceptions.md) -/

/-- R420, R421, R49 (rests on decisions D29 and D61): the divider counts every 256 cycles and requests nothing; TIMA advances
once a period while it is enabled, and on overflow is reloaded from TMA and requests the timer interrupt. -/
def Obligations.TimerUpdate : Prop :=
  ∀ (s : State) (c : Nat), s.memoryWf = true →
    let d := dividerUpdate c s
    let tac := s.rawRead 0xFF07
    let period := if tac.toNat % 4 = 0 then 1024 else if tac.toNat % 4 = 1 then 16 else if tac.toNat % 4 = 2 then 64 else 256
    timerUpdate c s = timaUpdate c d ∧
    d = { s with raw := d.raw, divAcc := (s.divAcc + c) % 256 } ∧
    (d.rawRead 0xFF04).toNat = ((s.rawRead 0xFF04).toNat + (s.divAcc + c) / 256) % 256 ∧
    (∀ n, n ≠ 0xFF04 → d.rawRead n = s.rawRead n) ∧
    (tac.getLsbD 2 = false → timaUpdate c s = s) ∧
    (tac.getLsbD 2 = true → timaUpdate c s =
      { timaTick^[(s.timaAcc + c) / period] s with timaAcc := (s.timaAcc + c) % period }) ∧
    (let t := timaTick s
     t = { s with raw := t.raw } ∧ (∀ n, n ≠ 0xFF05 → n ≠ 0xFF0F → t.rawRead n = s.rawRead n) ∧
     (s.rawRead 0xFF05 = 0xFF → t.rawRead 0xFF05 = s.rawRead 0xFF06 ∧
       t.rawRead 0xFF0F = s.rawRead 0xFF0F ||| 0x04) ∧
     (s.rawRead 0xFF05 ≠ 0xFF → t.rawRead 0xFF05 = s.rawRead 0xFF05 + 1 ∧ t.rawRead 0xFF0F = s.rawRead 0xFF0F))

/-- R440, R442, R445 (rests on decisions D39 and D41): the video off freezes; otherwise the mode follows from LY and the line
accumulator, goes into STAT[1:0], and requests its interrupt once until its latch is cleared. -/
def Obligations.VideoMode : Prop :=
  ∀ (s : State) (c : Nat), s.memoryWf = true →
    let off := ppuUpdate c s
    let t := modeUpdate s
    let ly := (s.rawRead 0xFF44).toNat
    let mode := if ly ≥ 144 then 1 else if s.lineAcc < 80 then 2 else if s.lineAcc < 252 then 3 else 0
    let stat := s.rawRead 0xFF41
    let oam := mode = 2 ∧ stat.getLsbD 5 = true ∧ s.oamLatch = false
    let hblank := mode = 0 ∧ stat.getLsbD 3 = true ∧ s.hblankLatch = false
    let vblank := mode = 1 ∧ stat.getLsbD 4 = true ∧ s.vblankLatch = false
    ((s.rawRead 0xFF40).getLsbD 7 = false →
      off = { s with raw := off.raw, lineAcc := 0, oamLatch := false, hblankLatch := false, vblankLatch := false } ∧
      off.rawRead 0xFF44 = 0 ∧ off.rawRead 0xFF41 = stat &&& 0xFC ∧
      ∀ n, n ≠ 0xFF44 → n ≠ 0xFF41 → off.rawRead n = s.rawRead n) ∧
    t = { s with
      raw := t.raw, oamLatch := s.oamLatch || decide oam, hblankLatch := s.hblankLatch || decide hblank,
      vblankLatch := s.vblankLatch || decide vblank } ∧
    (t.rawRead 0xFF41).toNat = stat.toNat / 4 * 4 + mode ∧
    t.rawRead 0xFF0F = (if oam ∨ hblank ∨ vblank then s.rawRead 0xFF0F ||| 0x02 else s.rawRead 0xFF0F) ∧
    ∀ n, n ≠ 0xFF41 → n ≠ 0xFF0F → t.rawRead n = s.rawRead n

/-- R441, R443, R444, R457 (rests on decisions D40, D43, D47 and D61): an update with the LCD on turns every 456 cycles
into a line advance and then updates the mode from the remainder (VideoMode says what that does); a line advance moves LY,
clears the latches, renders a visible line, compares with LYC, and at line 144 requests VBlank and hands over the frame.
That a later hand-over of one update replaces an earlier one is the model's choice, log entry 6. -/
def Obligations.VideoLines : Prop :=
  ∀ (s : State) (c : Nat), s.memoryWf = true → (s.rawRead 0xFF44).toNat ≤ 153 →
    let u := ppuUpdate c s
    let t := lineAdvance s
    let next := ((s.rawRead 0xFF44).toNat + 1) % 154
    let hit := BitVec.ofNat 8 next = s.rawRead 0xFF45
    let lyc := hit ∧ (s.rawRead 0xFF41).getLsbD 6 = true
    ((s.rawRead 0xFF40).getLsbD 7 = true →
      u = modeUpdate { lineAdvance^[(s.lineAcc + c) / 456] s with lineAcc := (s.lineAcc + c) % 456 } ∧
      u.lineAcc = (s.lineAcc + c) % 456 ∧
      (u.rawRead 0xFF44).toNat = ((s.rawRead 0xFF44).toNat + (s.lineAcc + c) / 456) % 154) ∧
    t = { s with
      raw := t.raw, fb := t.fb, presented := if next = 144 then some t.fb else s.presented, oamLatch := false,
      hblankLatch := false, vblankLatch := if next = 0 then false else s.vblankLatch } ∧
    (t.rawRead 0xFF44).toNat = next ∧
    t.rawRead 0xFF41 = (if hit then s.rawRead 0xFF41 ||| 0x04 else s.rawRead 0xFF41 &&& 0xFB) ∧
    (∀ k, (t.rawRead 0xFF0F).getLsbD k =
      ((s.rawRead 0xFF0F).getLsbD k || decide (k = 0 ∧ next = 144) || decide (k = 1 ∧ lyc))) ∧
    (∀ n, n ≠ 0xFF44 → n ≠ 0xFF41 → n ≠ 0xFF0F → t.rawRead n = s.rawRead n) ∧
    (∀ y, t.fbRow y = if y = next ∧ next < 144 then renderedRow (s.rawWrite 0xFF44 (BitVec.ofNat 8 next)) next
      else s.fbRow y)

/-- R450 to R453 (rests on decision D44): the background pass of a line, the colour index and the shade of each of its 160
pixels, and that it is the whole line when the sprites are off. -/
def Obligations.BackgroundPixels : Prop :=
  ∀ (s : State) (ly x : Nat), x < 160 →
    let bg := backgroundLine s ly
    let shades := backgroundShades s bg
    let lcdc := s.rawRead 0xFF40
    let wx := (s.rawRead 0xFF4B).toNat
    let wy := (s.rawRead 0xFF4A).toNat
    let window := lcdc.getLsbD 5 = true ∧ wy ≤ ly ∧ (x : Int) ≥ (wx : Int) - 7
    let map := if (if window then lcdc.getLsbD 6 else lcdc.getLsbD 3) = true then 0x9C00 else 0x9800
    let px := if window then ((x : Int) - ((wx : Int) - 7)).toNat else (x + (s.rawRead 0xFF43).toNat) % 256
    let py := if window then ly - wy else (ly + (s.rawRead 0xFF42).toNat) % 256
    let tile := s.rawRead (map + py / 8 * 32 + px / 8)
    let base : Int := if lcdc.getLsbD 4 = true then 0x8000 + 16 * (tile.toNat : Int) else 0x9000 + 16 * tile.toInt
    let addr := base.toNat + 2 * (py % 8)
    let lo := if (s.rawRead addr).getLsbD (7 - px % 8) then 1 else 0
    let hi := if (s.rawRead (addr + 1)).getLsbD (7 - px % 8) then 1 else 0
    bg.length = 160 ∧ shades.length = 160 ∧
    (bg.getD x 0).toNat = (if lcdc.getLsbD 0 = true then 2 * hi + lo else 0) ∧
    (shades.getD x 0).toNat =
      (if lcdc.getLsbD 0 = true then (s.rawRead 0xFF47).toNat / 4 ^ (2 * hi + lo) % 4 else 0) ∧
    (lcdc.getLsbD 1 = false → renderedRow s ly = shades)

/-- R450, R454, R455, R456 (rests on decisions D44 and D45): a line is the background pass (BackgroundPixels) with the pixels
0 to 7 of each selected sprite drawn over it, the largest key first; what an OAM entry's fields are, which sprites a line
selects, in which order, and what one pixel of a sprite does to the row. -/
def Obligations.SpriteDrawing : Prop :=
  ∀ (s : State) (ly pix : Nat) (bg row : List Shade) (p q : Sprite), row.length = 160 → pix < 8 →
    let lcdc := s.rawRead 0xFF40
    let h : Nat := if lcdc.getLsbD 2 = true then 16 else 8
    let chosen := selectedSprites s ly
    renderedRow s ly = (sortSprites chosen).foldl
      (fun row u => [0, 1, 2, 3, 4, 5, 6, 7].foldl (drawSpritePixel s ly (backgroundLine s ly) u) row)
      (backgroundShades s (backgroundLine s ly)) ∧
    (∀ i, oamEntry s i =
      { y := ((s.rawRead (0xFE00 + 4 * i)).toNat : Int) - 16, x := ((s.rawRead (0xFE00 + 4 * i + 1)).toNat : Int) - 8,
        tile := s.rawRead (0xFE00 + 4 * i + 2), attr := s.rawRead (0xFE00 + 4 * i + 3), index := i }) ∧
    (p ∈ chosen ↔ lcdc.getLsbD 1 = true ∧ ∃ i < 40, p = oamEntry s i ∧
      ((s.rawRead (0xFE00 + 4 * i)).toNat : Int) - 16 ≤ ly ∧
      (ly : Int) < ((s.rawRead (0xFE00 + 4 * i)).toNat : Int) - 16 + h) ∧
    (sortSprites chosen).Perm chosen ∧
    (sortSprites chosen).Pairwise (fun u w => w.x < u.x ∨ (w.x = u.x ∧ (w.tile < u.tile ∨
      (w.tile = u.tile ∧ w.index ≤ u.index)))) ∧
    (q ∈ chosen →
      let r0 := ((ly : Int) - q.y).toNat
      let r := if q.attr.getLsbD 6 = true then h - 1 - r0 else r0
      let tile := if h = 16 then q.tile.toNat / 2 * 2 else q.tile.toNat
      let addr := 0x8000 + 16 * tile + 2 * r
      let bit := if q.attr.getLsbD 5 = true then pix else 7 - pix
      let ci := 2 * (if (s.rawRead (addr + 1)).getLsbD bit then 1 else 0) + (if (s.rawRead addr).getLsbD bit then 1 else 0)
      let pal := if q.attr.getLsbD 4 = true then s.rawRead 0xFF49 else s.rawRead 0xFF48
      ∀ x < 160, ((drawSpritePixel s ly bg q row pix).getD x 0).toNat =
        if (x : Int) = q.x + pix ∧ ci ≠ 0 ∧ ¬ (q.attr.getLsbD 7 = true ∧ bg.getD x 0 ≠ 0) then pal.toNat / 4 ^ ci % 4
        else (row.getD x 0).toNat)

/-! ### Reset (70_reset_and_hazards.md) -/

/-- R500 to R503, R505 (rests on decisions D30, D34, D35, D48, D49, D56, D62 and D63, and log entry 4 for the schedule): what
a cartridge load takes from the image and the save, for the decided type table, and that the RAM banks are all 0 without a
save; everything else is as at reset. Of `Raw`, the load takes the first 0x8000 bytes of the image and no more: from 0x8000
up to the I/O bytes all is 0, and the I/O bytes are those of ResetValues. -/
def Obligations.LoadCartridge : Prop :=
  ∀ (image : Image) (save : Option Image) (schedule : List (List Buttons)),
    let s := loadCartridge Params.decided image save schedule
    let n := (image.byte 0x148).toNat
    s = { State.reset with
      raw := s.raw, romImage := s.romImage, romLen := image.len, ramBanks := s.ramBanks, family := s.family,
      hasBattery := s.hasBattery, romBankCount := s.romBankCount, buttonSchedule := schedule } ∧
    (image.byte 0x147 ∈ [0x03, 0x06, 0x09, 0x0F, 0x10, 0x13] ↔ s.hasBattery = true) ∧
    (image.byte 0x147 ∈ [0x01, 0x02, 0x03] ∧ (n ≤ 8 ∨ n ∈ [0x52, 0x53, 0x54]) ↔ s.family = .mbc1) ∧
    (image.byte 0x147 ∈ [0x05, 0x06] ∧ (n ≤ 8 ∨ n ∈ [0x52, 0x53, 0x54]) ↔ s.family = .mbc2) ∧
    (image.byte 0x147 ∈ [0x0F, 0x10, 0x11, 0x12, 0x13] ∧ (n ≤ 8 ∨ n ∈ [0x52, 0x53, 0x54]) ↔ s.family = .mbc3) ∧
    s.romBankCount = (if n ≤ 8 then 2 ^ (n + 1) else if n = 0x52 then 72 else if n = 0x53 then 80
      else if n = 0x54 then 96 else 2) ∧
    (Memory.wf (fun _ => 0) image.len image.cells = true → ∀ off,
      (off < image.len → s.romRead off = image.byte off) ∧ (image.len ≤ off → s.romRead off = 0xFF) ∧
      (off < 0x8000 → s.rawRead off = image.byte off) ∧
      (0x8000 ≤ off → off < 0xFF00 → s.rawRead off = 0x00) ∧
      (0xFF00 ≤ off → s.rawRead off = State.reset.rawRead off)) ∧
    (save = none ∨ s.hasBattery = false → s.ramBanks = [] ∧ ∀ off, s.ramRead off = 0) ∧
    (∀ file, save = some file → s.hasBattery = true → Memory.wf (fun _ => 0) file.len file.cells = true →
      ∀ off < 0x8000, s.ramRead off = file.byte off)

/-- R504, R506, R500 (rests on decisions D14, D48, D49 and D63): the state after reset; the cartridge in it is log entry 2's. -/
def Obligations.ResetValues : Prop :=
  let s := State.reset
  s.af = 0x01B0 ∧ s.bc = 0x0013 ∧ s.de = 0x00D8 ∧ s.hl = 0x014D ∧ s.pc = 0x0100 ∧ s.sp = 0xFFFE ∧
  s.ime = false ∧ s.imePend = .noChange ∧ s.halted = false ∧ s.stopped = false ∧ s.fault = none ∧
  s.romBank = 1 ∧ s.ramBank = 0 ∧ s.ramEnabled = false ∧ s.romBankingMode = true ∧
  s.divAcc = 0 ∧ s.timaAcc = 0 ∧ s.lineAcc = 0 ∧ s.oamLatch = false ∧ s.hblankLatch = false ∧ s.vblankLatch = false ∧
  [0xFF00, 0xFF04, 0xFF05, 0xFF06, 0xFF07, 0xFF0F].map s.rawRead = [0xCF, 0x00, 0x00, 0x00, 0x00, 0x00] ∧
  [0xFF40, 0xFF41, 0xFF42, 0xFF43, 0xFF44, 0xFF45, 0xFF46, 0xFF47, 0xFF48, 0xFF49, 0xFF4A, 0xFF4B, 0xFFFF].map s.rawRead =
    [0x91, 0x00, 0x00, 0x00, 0x00, 0x00, 0x00, 0xFC, 0xFF, 0xFF, 0x00, 0x00, 0x00] ∧
  [0xFF10, 0xFF11, 0xFF12, 0xFF13, 0xFF14, 0xFF15, 0xFF16, 0xFF17, 0xFF18, 0xFF19, 0xFF1A, 0xFF1B].map s.rawRead =
    [0x80, 0xBF, 0xF3, 0x00, 0xBF, 0x00, 0x3F, 0x00, 0x00, 0xBF, 0x7F, 0xFF] ∧
  [0xFF1C, 0xFF1D, 0xFF1E, 0xFF1F, 0xFF20, 0xFF21, 0xFF22, 0xFF23, 0xFF24, 0xFF25, 0xFF26].map s.rawRead =
    [0x9F, 0x00, 0xBF, 0x00, 0xFF, 0x00, 0x00, 0xBF, 0x77, 0xF3, 0xF1] ∧
  (∀ n < 0x100, n ∉ [0x00, 0x10, 0x11, 0x12, 0x14, 0x16, 0x19, 0x1A, 0x1B, 0x1C, 0x1E, 0x20, 0x23, 0x24, 0x25, 0x26, 0x40,
    0x47, 0x48, 0x49] → s.rawRead (0xFF00 + n) = 0x00)

/-- R64: the invariant holds after reset. -/
def Obligations.ResetHasInv : Prop := State.reset.Inv

/-- R64, R31, R441, R91 to R97, R351, R352, R43: every step keeps the invariant, from every state that has it. -/
def Obligations.StepKeepsInv : Prop := ∀ (s t : State), s.Inv → step s = .next t → t.Inv

/-- R41, R42, R88, R6: no step changes the ROM image, the controller's family, the battery flag, the bank count or the
launch's parameters; and a step always answers, with a fault only when a decode failure was latched before it. -/
def Obligations.StepKeepsLaunchData : Prop :=
  (∀ (s t : State), step s = .next t →
    t.params = s.params ∧ t.romImage = s.romImage ∧ t.romLen = s.romLen ∧ t.family = s.family ∧
    t.hasBattery = s.hasBattery ∧ t.romBankCount = s.romBankCount) ∧
  (∀ s : State, s.fault = none → ∃ t, step s = .next t)

/-! ### Encoding (30_encoding.md) -/

/-- R149, R151, R84: a word of each family, written out from its encoding. -/
def Obligations.DecodeWords : Prop :=
  decode [0b01111000] = .ok (.ldAB, []) ∧ decode [0b00111110, 0x42] = .ok (.ldAD8 0x42, []) ∧
  decode [0b00110001, 0xFE, 0xFF] = .ok (.ldSpD16 0xFFFE, []) ∧ decode [0b11110101] = .ok (.pushAf, []) ∧
  decode [0b10010000] = .ok (.subB, []) ∧ decode [0b11111110, 0x90] = .ok (.cpD8 0x90, []) ∧
  decode [0b00101001] = .ok (.addHlHl, []) ∧ decode [0b11001101, 0x00, 0x02] = .ok (.callA16 0x0200, []) ∧
  decode [0b00110000, 0xFC] = .ok (.jrNcE8 0xFC, []) ∧ decode [0b01110110] = .ok (.halt, []) ∧
  decode [0b11001011, 0b01111100] = .ok (.bit7H, []) ∧ decode [0b11001011, 0b00110110] = .ok (.swapMemHl, []) ∧
  decode [0b11010011] = .ok (.illegalD3, [])

/-- R140, R149, R151, R153: what a well-formed instruction is encoded as decodes to it, with every operand, and leaves the
bytes that follow it. -/
def Obligations.DecodeEncode : Prop :=
  ∀ (i : Instr) (rest : List Byte), i.wellFormed = true → decode (encode i ++ rest) = .ok (i, rest)

/-- R149, R152: any bytes decode to an instruction whose encoding is the bytes that its first byte's length takes; only STOP's
ignored byte is not kept. -/
def Obligations.EncodeDecode : Prop :=
  ∀ (op b1 b2 : Byte),
    encode (decodeBytes op b1 b2) = (if op = 0x10 then [0x10, 0x00] else [op, b1, b2].take (opLength op)) ∧
    (decodeBytes op b1 b2).wellFormed = true
end

