-- ==== Sys2Proof/Laws/Encoding.lean ====
section
/-! SUPPORT. The laws of byte order and of the decoder's tables. -/

namespace Sys2Proof

theorem getLsbD_wordOf (lo hi : Byte) (i : Nat) :
    (wordOf lo hi).getLsbD i = if i < 8 then lo.getLsbD i else hi.getLsbD (i - 8) := by
  simp only [wordOf, BitVec.getLsbD_or, BitVec.getLsbD_shiftLeft, BitVec.getLsbD_setWidth]
  by_cases h : i < 8
  · have h16 : i < 16 := by omega
    simp [h, h16]
  · by_cases h16 : i < 16
    · have h' : i - 8 < 16 := by omega
      have hlo : lo.getLsbD i = false := BitVec.getLsbD_of_ge _ _ (by omega)
      simp [h, h16, h', hlo]
    · have hhi : hi.getLsbD (i - 8) = false := BitVec.getLsbD_of_ge _ _ (by omega)
      simp [h, h16, hhi]

@[simp] theorem lowByte_wordOf (lo hi : Byte) : lowByte (wordOf lo hi) = lo := by
  apply BitVec.eq_of_getLsbD_eq
  intro i hi'
  simp [lowByte, getLsbD_wordOf, hi']

@[simp] theorem highByte_wordOf (lo hi : Byte) : highByte (wordOf lo hi) = hi := by
  apply BitVec.eq_of_getLsbD_eq
  intro i hi'
  simp [highByte, getLsbD_wordOf, hi']

@[simp] theorem wordOf_low_high (v : Word) : wordOf (lowByte v) (highByte v) = v := by
  apply BitVec.eq_of_getLsbD_eq
  intro i hi
  rw [getLsbD_wordOf]
  by_cases h : i < 8
  · simp [h, lowByte]
  · have h8 : i - 8 < 8 := by omega
    have hi8 : 8 + (i - 8) = i := by omega
    simp [h, highByte, h8, hi8]

/-- The low byte as a slice of the word. -/
theorem extractLsb'_low (v : Word) : v.extractLsb' 0 8 = lowByte v := by
  apply BitVec.eq_of_getLsbD_eq
  intro i h
  simp [lowByte, h]

/-- The high byte as a slice of the word. -/
theorem extractLsb'_high (v : Word) : v.extractLsb' 8 8 = highByte v := by
  apply BitVec.eq_of_getLsbD_eq
  intro i h
  simp [highByte, h]

/-- The value of a word made of two bytes. -/
theorem wordOf_toNat (lo hi : Byte) : (wordOf lo hi).toNat = hi.toNat * 256 + lo.toNat := by
  have h1 := lo.isLt
  have h2 := hi.isLt
  have h3 : hi.toNat <<< 8 % 65536 = hi.toNat <<< 8 := by
    rw [Nat.shiftLeft_eq]
    omega
  simp only [wordOf, BitVec.toNat_or, BitVec.toNat_shiftLeft, BitVec.toNat_setWidth]
  rw [Nat.mod_eq_of_lt (show hi.toNat < 2 ^ 16 by omega), Nat.mod_eq_of_lt (show lo.toNat < 2 ^ 16 by omega), h3,
    ← Nat.shiftLeft_add_eq_or_of_lt (show lo.toNat < 2 ^ 8 from h1), Nat.shiftLeft_eq]

end Sys2Proof
end

