-- ==== Sys2Proof/Laws/Memory.lean ====
section
/-! SUPPORT. The laws of canonical storage: reading after writing, and keeping the canonical form. -/

namespace Sys2Proof.Machine

/-- A key below every listed one reads as the default. -/
theorem Memory.read_below {β : Type} (dflt : Nat → β) (m : List (Nat × β)) (n : Nat) (h : ∀ cell ∈ m, n < cell.1) :
    Memory.read dflt m n = dflt n := by
  induction m with
  | nil => rfl
  | cons cell rest ih =>
    have h1 := h cell (by simp)
    have : cell.1 ≠ n := by omega
    simp only [Memory.read, this, if_false]
    exact ih fun c hc => h c (by simp [hc])

variable {β : Type} [DecidableEq β] (dflt : Nat → β)

theorem Memory.wf_cons (size k : Nat) (v : β) (rest : List (Nat × β)) :
    Memory.wf dflt size ((k, v) :: rest) = true ↔
      k < size ∧ v ≠ dflt k ∧ (∀ cell ∈ rest, k < cell.1) ∧ Memory.wf dflt size rest = true := by
  simp [Memory.wf, and_assoc]

/-- A write leaves every other key alone, in any list. -/
theorem Memory.read_write_other (m : List (Nat × β)) (n x : Nat) (v : β) (hx : x ≠ n) :
    Memory.read dflt (Memory.write dflt m n v) x = Memory.read dflt m x := by
  induction m with
  | nil =>
    simp only [Memory.write]
    split <;> simp [Memory.read, Ne.symm hx]
  | cons cell rest ih =>
    obtain ⟨k, w⟩ := cell
    simp only [Memory.write]
    split
    · split <;> simp [Memory.read, Ne.symm hx]
    · split
      · rename_i hk
        subst hk
        split <;> simp [Memory.read, Ne.symm hx]
      · simp only [Memory.read, ih]

/-- In a canonical list, a read after a write to the same key gives the value written. -/
theorem Memory.read_write_same (size : Nat) (m : List (Nat × β)) (n : Nat) (v : β) (h : Memory.wf dflt size m = true) :
    Memory.read dflt (Memory.write dflt m n v) n = v := by
  induction m with
  | nil =>
    simp only [Memory.write]
    split
    · rename_i hv; simp [Memory.read, hv]
    · simp [Memory.read]
  | cons cell rest ih =>
    obtain ⟨k, w⟩ := cell
    obtain ⟨-, -, hrest, hwf⟩ := (Memory.wf_cons dflt size k w rest).mp h
    simp only [Memory.write]
    split
    · rename_i hnk
      split
      · rename_i hv
        rw [hv]
        exact Memory.read_below dflt _ _ fun c hc => by
          rcases List.mem_cons.mp hc with rfl | hc
          · exact hnk
          · exact Nat.lt_trans hnk (hrest c hc)
      · simp [Memory.read]
    · split
      · rename_i hk
        subst hk
        split
        · rename_i hv
          rw [hv]
          exact Memory.read_below dflt _ _ hrest
        · simp [Memory.read]
      · rename_i hk
        simp only [Memory.read, Ne.symm hk, if_false]
        exact ih hwf

/-- Every key of a written list is the key written or was listed before. -/
theorem Memory.mem_write (m : List (Nat × β)) (n : Nat) (v : β) (cell : Nat × β) (h : cell ∈ Memory.write dflt m n v) :
    cell.1 = n ∨ cell ∈ m := by
  induction m with
  | nil =>
    simp only [Memory.write] at h
    split at h
    · cases h
    · simp at h; simp [h]
  | cons c rest ih =>
    obtain ⟨k, w⟩ := c
    simp only [Memory.write] at h
    split at h
    · split at h
      · exact .inr h
      · rcases List.mem_cons.mp h with rfl | h
        · exact .inl rfl
        · exact .inr h
    · split at h
      · split at h
        · exact .inr (List.mem_cons_of_mem _ h)
        · rcases List.mem_cons.mp h with rfl | h
          · exact .inl rfl
          · exact .inr (List.mem_cons_of_mem _ h)
      · rcases List.mem_cons.mp h with rfl | h
        · exact .inr (by simp)
        · exact (ih h).imp id (List.mem_cons_of_mem _)

/-- The entries of a written list are the entry written or were listed before. -/
theorem Memory.mem_write_entry (m : List (Nat × β)) (n : Nat) (v : β) (cell : Nat × β)
    (h : cell ∈ Memory.write dflt m n v) : cell = (n, v) ∨ cell ∈ m := by
  induction m with
  | nil =>
    simp only [Memory.write] at h
    split at h
    · cases h
    · simp at h; simp [h]
  | cons c rest ih =>
    obtain ⟨k, w⟩ := c
    simp only [Memory.write] at h
    split at h
    · split at h
      · exact .inr h
      · exact (List.mem_cons.mp h).imp id id
    · split at h
      · split at h
        · exact .inr (List.mem_cons_of_mem _ h)
        · exact (List.mem_cons.mp h).imp id (List.mem_cons_of_mem _)
      · rcases List.mem_cons.mp h with rfl | h
        · exact .inr (by simp)
        · exact (ih h).imp id (List.mem_cons_of_mem _)

/-- A write within the range keeps the canonical form. -/
theorem Memory.wf_write (size : Nat) (m : List (Nat × β)) (n : Nat) (v : β) (hn : n < size)
    (h : Memory.wf dflt size m = true) : Memory.wf dflt size (Memory.write dflt m n v) = true := by
  induction m with
  | nil =>
    simp only [Memory.write]
    split
    · exact h
    · rename_i hv; simp [Memory.wf, hn, hv]
  | cons cell rest ih =>
    obtain ⟨k, w⟩ := cell
    obtain ⟨hk, hw, hrest, hwf⟩ := (Memory.wf_cons dflt size k w rest).mp h
    simp only [Memory.write]
    split
    · rename_i hnk
      split
      · exact h
      · rename_i hv
        refine (Memory.wf_cons dflt size n v _).mpr ⟨hn, hv, fun c hc => ?_, h⟩
        rcases List.mem_cons.mp hc with rfl | hc
        · exact hnk
        · exact Nat.lt_trans hnk (hrest c hc)
    · split
      · rename_i hnk
        subst hnk
        split
        · exact hwf
        · rename_i hv
          exact (Memory.wf_cons dflt size n v rest).mpr ⟨hn, hv, hrest, hwf⟩
      · refine (Memory.wf_cons dflt size k w _).mpr ⟨hk, hw, fun c hc => ?_, ih hwf⟩
        rcases Memory.mem_write dflt rest n v c hc with hc | hc
        · omega
        · exact hrest c hc

/-- A read within a canonical list does not depend on how large the range is. -/
theorem Memory.wf_mono (size size' : Nat) (m : List (Nat × β)) (hs : size ≤ size') (h : Memory.wf dflt size m = true) :
    Memory.wf dflt size' m = true := by
  induction m with
  | nil => rfl
  | cons cell rest ih =>
    obtain ⟨k, w⟩ := cell
    obtain ⟨hk, hw, hrest, hwf⟩ := (Memory.wf_cons dflt size k w rest).mp h
    exact (Memory.wf_cons dflt size' k w rest).mpr ⟨Nat.lt_of_lt_of_le hk hs, hw, hrest, ih hwf⟩

end Sys2Proof.Machine
end

