-- ==== Sys2Proof/Laws/State.lean ====
section
/-! SUPPORT. Beside State: for each named update, one lemma per field, so that no later proof unfolds a record update. An
update that writes one storage or one register leaves every other field as it was. -/

namespace Sys2Proof.Machine

open Sys2Proof

/-! ### `fetched` -/

@[simp] theorem fetched_params (s : State) (n : Nat) : (s.fetched n).params = s.params := rfl
@[simp] theorem fetched_a (s : State) (n : Nat) : (s.fetched n).a = s.a := rfl
@[simp] theorem fetched_f (s : State) (n : Nat) : (s.fetched n).f = s.f := rfl
@[simp] theorem fetched_b (s : State) (n : Nat) : (s.fetched n).b = s.b := rfl
@[simp] theorem fetched_c (s : State) (n : Nat) : (s.fetched n).c = s.c := rfl
@[simp] theorem fetched_d (s : State) (n : Nat) : (s.fetched n).d = s.d := rfl
@[simp] theorem fetched_e (s : State) (n : Nat) : (s.fetched n).e = s.e := rfl
@[simp] theorem fetched_h (s : State) (n : Nat) : (s.fetched n).h = s.h := rfl
@[simp] theorem fetched_l (s : State) (n : Nat) : (s.fetched n).l = s.l := rfl
@[simp] theorem fetched_sp (s : State) (n : Nat) : (s.fetched n).sp = s.sp := rfl
@[simp] theorem fetched_pc (s : State) (n : Nat) : (s.fetched n).pc = s.pc + BitVec.ofNat 16 n := rfl
@[simp] theorem fetched_ime (s : State) (n : Nat) : (s.fetched n).ime = s.ime := rfl
@[simp] theorem fetched_imePend (s : State) (n : Nat) : (s.fetched n).imePend = s.imePend := rfl
@[simp] theorem fetched_imePendFresh (s : State) (n : Nat) : (s.fetched n).imePendFresh = s.imePendFresh := rfl
@[simp] theorem fetched_halted (s : State) (n : Nat) : (s.fetched n).halted = s.halted := rfl
@[simp] theorem fetched_stopped (s : State) (n : Nat) : (s.fetched n).stopped = s.stopped := rfl
@[simp] theorem fetched_savedP1 (s : State) (n : Nat) : (s.fetched n).savedP1 = s.savedP1 := rfl
@[simp] theorem fetched_savedLcdc (s : State) (n : Nat) : (s.fetched n).savedLcdc = s.savedLcdc := rfl
@[simp] theorem fetched_savedTac (s : State) (n : Nat) : (s.fetched n).savedTac = s.savedTac := rfl
@[simp] theorem fetched_fault (s : State) (n : Nat) : (s.fetched n).fault = s.fault := rfl
@[simp] theorem fetched_raw (s : State) (n : Nat) : (s.fetched n).raw = s.raw := rfl
@[simp] theorem fetched_romImage (s : State) (n : Nat) : (s.fetched n).romImage = s.romImage := rfl
@[simp] theorem fetched_romLen (s : State) (n : Nat) : (s.fetched n).romLen = s.romLen := rfl
@[simp] theorem fetched_ramBanks (s : State) (n : Nat) : (s.fetched n).ramBanks = s.ramBanks := rfl
@[simp] theorem fetched_family (s : State) (n : Nat) : (s.fetched n).family = s.family := rfl
@[simp] theorem fetched_hasBattery (s : State) (n : Nat) : (s.fetched n).hasBattery = s.hasBattery := rfl
@[simp] theorem fetched_romBankCount (s : State) (n : Nat) : (s.fetched n).romBankCount = s.romBankCount := rfl
@[simp] theorem fetched_romBank (s : State) (n : Nat) : (s.fetched n).romBank = s.romBank := rfl
@[simp] theorem fetched_ramBank (s : State) (n : Nat) : (s.fetched n).ramBank = s.ramBank := rfl
@[simp] theorem fetched_ramEnabled (s : State) (n : Nat) : (s.fetched n).ramEnabled = s.ramEnabled := rfl
@[simp] theorem fetched_romBankingMode (s : State) (n : Nat) : (s.fetched n).romBankingMode = s.romBankingMode := rfl
@[simp] theorem fetched_divAcc (s : State) (n : Nat) : (s.fetched n).divAcc = s.divAcc := rfl
@[simp] theorem fetched_timaAcc (s : State) (n : Nat) : (s.fetched n).timaAcc = s.timaAcc := rfl
@[simp] theorem fetched_lineAcc (s : State) (n : Nat) : (s.fetched n).lineAcc = s.lineAcc := rfl
@[simp] theorem fetched_oamLatch (s : State) (n : Nat) : (s.fetched n).oamLatch = s.oamLatch := rfl
@[simp] theorem fetched_hblankLatch (s : State) (n : Nat) : (s.fetched n).hblankLatch = s.hblankLatch := rfl
@[simp] theorem fetched_vblankLatch (s : State) (n : Nat) : (s.fetched n).vblankLatch = s.vblankLatch := rfl
@[simp] theorem fetched_fb (s : State) (n : Nat) : (s.fetched n).fb = s.fb := rfl
@[simp] theorem fetched_pressed (s : State) (n : Nat) : (s.fetched n).pressed = s.pressed := rfl
@[simp] theorem fetched_buttonSchedule (s : State) (n : Nat) : (s.fetched n).buttonSchedule = s.buttonSchedule := rfl
@[simp] theorem fetched_presented (s : State) (n : Nat) : (s.fetched n).presented = s.presented := rfl
@[simp] theorem fetched_cycles (s : State) (n : Nat) : (s.fetched n).cycles = s.cycles := rfl

/-! ### `rawWrite` -/

@[simp] theorem rawWrite_params (s : State) (n : Nat) (v : Byte) : (s.rawWrite n v).params = s.params := rfl
@[simp] theorem rawWrite_a (s : State) (n : Nat) (v : Byte) : (s.rawWrite n v).a = s.a := rfl
@[simp] theorem rawWrite_f (s : State) (n : Nat) (v : Byte) : (s.rawWrite n v).f = s.f := rfl
@[simp] theorem rawWrite_b (s : State) (n : Nat) (v : Byte) : (s.rawWrite n v).b = s.b := rfl
@[simp] theorem rawWrite_c (s : State) (n : Nat) (v : Byte) : (s.rawWrite n v).c = s.c := rfl
@[simp] theorem rawWrite_d (s : State) (n : Nat) (v : Byte) : (s.rawWrite n v).d = s.d := rfl
@[simp] theorem rawWrite_e (s : State) (n : Nat) (v : Byte) : (s.rawWrite n v).e = s.e := rfl
@[simp] theorem rawWrite_h (s : State) (n : Nat) (v : Byte) : (s.rawWrite n v).h = s.h := rfl
@[simp] theorem rawWrite_l (s : State) (n : Nat) (v : Byte) : (s.rawWrite n v).l = s.l := rfl
@[simp] theorem rawWrite_sp (s : State) (n : Nat) (v : Byte) : (s.rawWrite n v).sp = s.sp := rfl
@[simp] theorem rawWrite_pc (s : State) (n : Nat) (v : Byte) : (s.rawWrite n v).pc = s.pc := rfl
@[simp] theorem rawWrite_ime (s : State) (n : Nat) (v : Byte) : (s.rawWrite n v).ime = s.ime := rfl
@[simp] theorem rawWrite_imePend (s : State) (n : Nat) (v : Byte) : (s.rawWrite n v).imePend = s.imePend := rfl
@[simp] theorem rawWrite_imePendFresh (s : State) (n : Nat) (v : Byte) : (s.rawWrite n v).imePendFresh = s.imePendFresh := rfl
@[simp] theorem rawWrite_halted (s : State) (n : Nat) (v : Byte) : (s.rawWrite n v).halted = s.halted := rfl
@[simp] theorem rawWrite_stopped (s : State) (n : Nat) (v : Byte) : (s.rawWrite n v).stopped = s.stopped := rfl
@[simp] theorem rawWrite_savedP1 (s : State) (n : Nat) (v : Byte) : (s.rawWrite n v).savedP1 = s.savedP1 := rfl
@[simp] theorem rawWrite_savedLcdc (s : State) (n : Nat) (v : Byte) : (s.rawWrite n v).savedLcdc = s.savedLcdc := rfl
@[simp] theorem rawWrite_savedTac (s : State) (n : Nat) (v : Byte) : (s.rawWrite n v).savedTac = s.savedTac := rfl
@[simp] theorem rawWrite_fault (s : State) (n : Nat) (v : Byte) : (s.rawWrite n v).fault = s.fault := rfl
@[simp] theorem rawWrite_raw (s : State) (n : Nat) (v : Byte) : (s.rawWrite n v).raw = Memory.write rawReset s.raw n v := rfl
@[simp] theorem rawWrite_romImage (s : State) (n : Nat) (v : Byte) : (s.rawWrite n v).romImage = s.romImage := rfl
@[simp] theorem rawWrite_romLen (s : State) (n : Nat) (v : Byte) : (s.rawWrite n v).romLen = s.romLen := rfl
@[simp] theorem rawWrite_ramBanks (s : State) (n : Nat) (v : Byte) : (s.rawWrite n v).ramBanks = s.ramBanks := rfl
@[simp] theorem rawWrite_family (s : State) (n : Nat) (v : Byte) : (s.rawWrite n v).family = s.family := rfl
@[simp] theorem rawWrite_hasBattery (s : State) (n : Nat) (v : Byte) : (s.rawWrite n v).hasBattery = s.hasBattery := rfl
@[simp] theorem rawWrite_romBankCount (s : State) (n : Nat) (v : Byte) : (s.rawWrite n v).romBankCount = s.romBankCount := rfl
@[simp] theorem rawWrite_romBank (s : State) (n : Nat) (v : Byte) : (s.rawWrite n v).romBank = s.romBank := rfl
@[simp] theorem rawWrite_ramBank (s : State) (n : Nat) (v : Byte) : (s.rawWrite n v).ramBank = s.ramBank := rfl
@[simp] theorem rawWrite_ramEnabled (s : State) (n : Nat) (v : Byte) : (s.rawWrite n v).ramEnabled = s.ramEnabled := rfl
@[simp] theorem rawWrite_romBankingMode (s : State) (n : Nat) (v : Byte) : (s.rawWrite n v).romBankingMode = s.romBankingMode := rfl
@[simp] theorem rawWrite_divAcc (s : State) (n : Nat) (v : Byte) : (s.rawWrite n v).divAcc = s.divAcc := rfl
@[simp] theorem rawWrite_timaAcc (s : State) (n : Nat) (v : Byte) : (s.rawWrite n v).timaAcc = s.timaAcc := rfl
@[simp] theorem rawWrite_lineAcc (s : State) (n : Nat) (v : Byte) : (s.rawWrite n v).lineAcc = s.lineAcc := rfl
@[simp] theorem rawWrite_oamLatch (s : State) (n : Nat) (v : Byte) : (s.rawWrite n v).oamLatch = s.oamLatch := rfl
@[simp] theorem rawWrite_hblankLatch (s : State) (n : Nat) (v : Byte) : (s.rawWrite n v).hblankLatch = s.hblankLatch := rfl
@[simp] theorem rawWrite_vblankLatch (s : State) (n : Nat) (v : Byte) : (s.rawWrite n v).vblankLatch = s.vblankLatch := rfl
@[simp] theorem rawWrite_fb (s : State) (n : Nat) (v : Byte) : (s.rawWrite n v).fb = s.fb := rfl
@[simp] theorem rawWrite_pressed (s : State) (n : Nat) (v : Byte) : (s.rawWrite n v).pressed = s.pressed := rfl
@[simp] theorem rawWrite_buttonSchedule (s : State) (n : Nat) (v : Byte) : (s.rawWrite n v).buttonSchedule = s.buttonSchedule := rfl
@[simp] theorem rawWrite_presented (s : State) (n : Nat) (v : Byte) : (s.rawWrite n v).presented = s.presented := rfl
@[simp] theorem rawWrite_cycles (s : State) (n : Nat) (v : Byte) : (s.rawWrite n v).cycles = s.cycles := rfl

/-! ### `ramWrite` -/

@[simp] theorem ramWrite_params (s : State) (n : Nat) (v : Byte) : (s.ramWrite n v).params = s.params := rfl
@[simp] theorem ramWrite_a (s : State) (n : Nat) (v : Byte) : (s.ramWrite n v).a = s.a := rfl
@[simp] theorem ramWrite_f (s : State) (n : Nat) (v : Byte) : (s.ramWrite n v).f = s.f := rfl
@[simp] theorem ramWrite_b (s : State) (n : Nat) (v : Byte) : (s.ramWrite n v).b = s.b := rfl
@[simp] theorem ramWrite_c (s : State) (n : Nat) (v : Byte) : (s.ramWrite n v).c = s.c := rfl
@[simp] theorem ramWrite_d (s : State) (n : Nat) (v : Byte) : (s.ramWrite n v).d = s.d := rfl
@[simp] theorem ramWrite_e (s : State) (n : Nat) (v : Byte) : (s.ramWrite n v).e = s.e := rfl
@[simp] theorem ramWrite_h (s : State) (n : Nat) (v : Byte) : (s.ramWrite n v).h = s.h := rfl
@[simp] theorem ramWrite_l (s : State) (n : Nat) (v : Byte) : (s.ramWrite n v).l = s.l := rfl
@[simp] theorem ramWrite_sp (s : State) (n : Nat) (v : Byte) : (s.ramWrite n v).sp = s.sp := rfl
@[simp] theorem ramWrite_pc (s : State) (n : Nat) (v : Byte) : (s.ramWrite n v).pc = s.pc := rfl
@[simp] theorem ramWrite_ime (s : State) (n : Nat) (v : Byte) : (s.ramWrite n v).ime = s.ime := rfl
@[simp] theorem ramWrite_imePend (s : State) (n : Nat) (v : Byte) : (s.ramWrite n v).imePend = s.imePend := rfl
@[simp] theorem ramWrite_imePendFresh (s : State) (n : Nat) (v : Byte) : (s.ramWrite n v).imePendFresh = s.imePendFresh := rfl
@[simp] theorem ramWrite_halted (s : State) (n : Nat) (v : Byte) : (s.ramWrite n v).halted = s.halted := rfl
@[simp] theorem ramWrite_stopped (s : State) (n : Nat) (v : Byte) : (s.ramWrite n v).stopped = s.stopped := rfl
@[simp] theorem ramWrite_savedP1 (s : State) (n : Nat) (v : Byte) : (s.ramWrite n v).savedP1 = s.savedP1 := rfl
@[simp] theorem ramWrite_savedLcdc (s : State) (n : Nat) (v : Byte) : (s.ramWrite n v).savedLcdc = s.savedLcdc := rfl
@[simp] theorem ramWrite_savedTac (s : State) (n : Nat) (v : Byte) : (s.ramWrite n v).savedTac = s.savedTac := rfl
@[simp] theorem ramWrite_fault (s : State) (n : Nat) (v : Byte) : (s.ramWrite n v).fault = s.fault := rfl
@[simp] theorem ramWrite_raw (s : State) (n : Nat) (v : Byte) : (s.ramWrite n v).raw = s.raw := rfl
@[simp] theorem ramWrite_romImage (s : State) (n : Nat) (v : Byte) : (s.ramWrite n v).romImage = s.romImage := rfl
@[simp] theorem ramWrite_romLen (s : State) (n : Nat) (v : Byte) : (s.ramWrite n v).romLen = s.romLen := rfl
@[simp] theorem ramWrite_ramBanks (s : State) (n : Nat) (v : Byte) : (s.ramWrite n v).ramBanks = Memory.write zeroByte s.ramBanks n v := rfl
@[simp] theorem ramWrite_family (s : State) (n : Nat) (v : Byte) : (s.ramWrite n v).family = s.family := rfl
@[simp] theorem ramWrite_hasBattery (s : State) (n : Nat) (v : Byte) : (s.ramWrite n v).hasBattery = s.hasBattery := rfl
@[simp] theorem ramWrite_romBankCount (s : State) (n : Nat) (v : Byte) : (s.ramWrite n v).romBankCount = s.romBankCount := rfl
@[simp] theorem ramWrite_romBank (s : State) (n : Nat) (v : Byte) : (s.ramWrite n v).romBank = s.romBank := rfl
@[simp] theorem ramWrite_ramBank (s : State) (n : Nat) (v : Byte) : (s.ramWrite n v).ramBank = s.ramBank := rfl
@[simp] theorem ramWrite_ramEnabled (s : State) (n : Nat) (v : Byte) : (s.ramWrite n v).ramEnabled = s.ramEnabled := rfl
@[simp] theorem ramWrite_romBankingMode (s : State) (n : Nat) (v : Byte) : (s.ramWrite n v).romBankingMode = s.romBankingMode := rfl
@[simp] theorem ramWrite_divAcc (s : State) (n : Nat) (v : Byte) : (s.ramWrite n v).divAcc = s.divAcc := rfl
@[simp] theorem ramWrite_timaAcc (s : State) (n : Nat) (v : Byte) : (s.ramWrite n v).timaAcc = s.timaAcc := rfl
@[simp] theorem ramWrite_lineAcc (s : State) (n : Nat) (v : Byte) : (s.ramWrite n v).lineAcc = s.lineAcc := rfl
@[simp] theorem ramWrite_oamLatch (s : State) (n : Nat) (v : Byte) : (s.ramWrite n v).oamLatch = s.oamLatch := rfl
@[simp] theorem ramWrite_hblankLatch (s : State) (n : Nat) (v : Byte) : (s.ramWrite n v).hblankLatch = s.hblankLatch := rfl
@[simp] theorem ramWrite_vblankLatch (s : State) (n : Nat) (v : Byte) : (s.ramWrite n v).vblankLatch = s.vblankLatch := rfl
@[simp] theorem ramWrite_fb (s : State) (n : Nat) (v : Byte) : (s.ramWrite n v).fb = s.fb := rfl
@[simp] theorem ramWrite_pressed (s : State) (n : Nat) (v : Byte) : (s.ramWrite n v).pressed = s.pressed := rfl
@[simp] theorem ramWrite_buttonSchedule (s : State) (n : Nat) (v : Byte) : (s.ramWrite n v).buttonSchedule = s.buttonSchedule := rfl
@[simp] theorem ramWrite_presented (s : State) (n : Nat) (v : Byte) : (s.ramWrite n v).presented = s.presented := rfl
@[simp] theorem ramWrite_cycles (s : State) (n : Nat) (v : Byte) : (s.ramWrite n v).cycles = s.cycles := rfl

/-! ### `setHl` -/

@[simp] theorem setHl_params (s : State) (v : Word) : (s.setHl v).params = s.params := rfl
@[simp] theorem setHl_a (s : State) (v : Word) : (s.setHl v).a = s.a := rfl
@[simp] theorem setHl_f (s : State) (v : Word) : (s.setHl v).f = s.f := rfl
@[simp] theorem setHl_b (s : State) (v : Word) : (s.setHl v).b = s.b := rfl
@[simp] theorem setHl_c (s : State) (v : Word) : (s.setHl v).c = s.c := rfl
@[simp] theorem setHl_d (s : State) (v : Word) : (s.setHl v).d = s.d := rfl
@[simp] theorem setHl_e (s : State) (v : Word) : (s.setHl v).e = s.e := rfl
@[simp] theorem setHl_h (s : State) (v : Word) : (s.setHl v).h = highByte v := rfl
@[simp] theorem setHl_l (s : State) (v : Word) : (s.setHl v).l = lowByte v := rfl
@[simp] theorem setHl_sp (s : State) (v : Word) : (s.setHl v).sp = s.sp := rfl
@[simp] theorem setHl_pc (s : State) (v : Word) : (s.setHl v).pc = s.pc := rfl
@[simp] theorem setHl_ime (s : State) (v : Word) : (s.setHl v).ime = s.ime := rfl
@[simp] theorem setHl_imePend (s : State) (v : Word) : (s.setHl v).imePend = s.imePend := rfl
@[simp] theorem setHl_imePendFresh (s : State) (v : Word) : (s.setHl v).imePendFresh = s.imePendFresh := rfl
@[simp] theorem setHl_halted (s : State) (v : Word) : (s.setHl v).halted = s.halted := rfl
@[simp] theorem setHl_stopped (s : State) (v : Word) : (s.setHl v).stopped = s.stopped := rfl
@[simp] theorem setHl_savedP1 (s : State) (v : Word) : (s.setHl v).savedP1 = s.savedP1 := rfl
@[simp] theorem setHl_savedLcdc (s : State) (v : Word) : (s.setHl v).savedLcdc = s.savedLcdc := rfl
@[simp] theorem setHl_savedTac (s : State) (v : Word) : (s.setHl v).savedTac = s.savedTac := rfl
@[simp] theorem setHl_fault (s : State) (v : Word) : (s.setHl v).fault = s.fault := rfl
@[simp] theorem setHl_raw (s : State) (v : Word) : (s.setHl v).raw = s.raw := rfl
@[simp] theorem setHl_romImage (s : State) (v : Word) : (s.setHl v).romImage = s.romImage := rfl
@[simp] theorem setHl_romLen (s : State) (v : Word) : (s.setHl v).romLen = s.romLen := rfl
@[simp] theorem setHl_ramBanks (s : State) (v : Word) : (s.setHl v).ramBanks = s.ramBanks := rfl
@[simp] theorem setHl_family (s : State) (v : Word) : (s.setHl v).family = s.family := rfl
@[simp] theorem setHl_hasBattery (s : State) (v : Word) : (s.setHl v).hasBattery = s.hasBattery := rfl
@[simp] theorem setHl_romBankCount (s : State) (v : Word) : (s.setHl v).romBankCount = s.romBankCount := rfl
@[simp] theorem setHl_romBank (s : State) (v : Word) : (s.setHl v).romBank = s.romBank := rfl
@[simp] theorem setHl_ramBank (s : State) (v : Word) : (s.setHl v).ramBank = s.ramBank := rfl
@[simp] theorem setHl_ramEnabled (s : State) (v : Word) : (s.setHl v).ramEnabled = s.ramEnabled := rfl
@[simp] theorem setHl_romBankingMode (s : State) (v : Word) : (s.setHl v).romBankingMode = s.romBankingMode := rfl
@[simp] theorem setHl_divAcc (s : State) (v : Word) : (s.setHl v).divAcc = s.divAcc := rfl
@[simp] theorem setHl_timaAcc (s : State) (v : Word) : (s.setHl v).timaAcc = s.timaAcc := rfl
@[simp] theorem setHl_lineAcc (s : State) (v : Word) : (s.setHl v).lineAcc = s.lineAcc := rfl
@[simp] theorem setHl_oamLatch (s : State) (v : Word) : (s.setHl v).oamLatch = s.oamLatch := rfl
@[simp] theorem setHl_hblankLatch (s : State) (v : Word) : (s.setHl v).hblankLatch = s.hblankLatch := rfl
@[simp] theorem setHl_vblankLatch (s : State) (v : Word) : (s.setHl v).vblankLatch = s.vblankLatch := rfl
@[simp] theorem setHl_fb (s : State) (v : Word) : (s.setHl v).fb = s.fb := rfl
@[simp] theorem setHl_pressed (s : State) (v : Word) : (s.setHl v).pressed = s.pressed := rfl
@[simp] theorem setHl_buttonSchedule (s : State) (v : Word) : (s.setHl v).buttonSchedule = s.buttonSchedule := rfl
@[simp] theorem setHl_presented (s : State) (v : Word) : (s.setHl v).presented = s.presented := rfl
@[simp] theorem setHl_cycles (s : State) (v : Word) : (s.setHl v).cycles = s.cycles := rfl

/-! ### `popped` -/

@[simp] theorem popped_params (s : State) : (popped s).params = s.params := rfl
@[simp] theorem popped_a (s : State) : (popped s).a = s.a := rfl
@[simp] theorem popped_f (s : State) : (popped s).f = s.f := rfl
@[simp] theorem popped_b (s : State) : (popped s).b = s.b := rfl
@[simp] theorem popped_c (s : State) : (popped s).c = s.c := rfl
@[simp] theorem popped_d (s : State) : (popped s).d = s.d := rfl
@[simp] theorem popped_e (s : State) : (popped s).e = s.e := rfl
@[simp] theorem popped_h (s : State) : (popped s).h = s.h := rfl
@[simp] theorem popped_l (s : State) : (popped s).l = s.l := rfl
@[simp] theorem popped_sp (s : State) : (popped s).sp = s.sp + 2 := rfl
@[simp] theorem popped_pc (s : State) : (popped s).pc = s.pc := rfl
@[simp] theorem popped_ime (s : State) : (popped s).ime = s.ime := rfl
@[simp] theorem popped_imePend (s : State) : (popped s).imePend = s.imePend := rfl
@[simp] theorem popped_imePendFresh (s : State) : (popped s).imePendFresh = s.imePendFresh := rfl
@[simp] theorem popped_halted (s : State) : (popped s).halted = s.halted := rfl
@[simp] theorem popped_stopped (s : State) : (popped s).stopped = s.stopped := rfl
@[simp] theorem popped_savedP1 (s : State) : (popped s).savedP1 = s.savedP1 := rfl
@[simp] theorem popped_savedLcdc (s : State) : (popped s).savedLcdc = s.savedLcdc := rfl
@[simp] theorem popped_savedTac (s : State) : (popped s).savedTac = s.savedTac := rfl
@[simp] theorem popped_fault (s : State) : (popped s).fault = s.fault := rfl
@[simp] theorem popped_raw (s : State) : (popped s).raw = s.raw := rfl
@[simp] theorem popped_romImage (s : State) : (popped s).romImage = s.romImage := rfl
@[simp] theorem popped_romLen (s : State) : (popped s).romLen = s.romLen := rfl
@[simp] theorem popped_ramBanks (s : State) : (popped s).ramBanks = s.ramBanks := rfl
@[simp] theorem popped_family (s : State) : (popped s).family = s.family := rfl
@[simp] theorem popped_hasBattery (s : State) : (popped s).hasBattery = s.hasBattery := rfl
@[simp] theorem popped_romBankCount (s : State) : (popped s).romBankCount = s.romBankCount := rfl
@[simp] theorem popped_romBank (s : State) : (popped s).romBank = s.romBank := rfl
@[simp] theorem popped_ramBank (s : State) : (popped s).ramBank = s.ramBank := rfl
@[simp] theorem popped_ramEnabled (s : State) : (popped s).ramEnabled = s.ramEnabled := rfl
@[simp] theorem popped_romBankingMode (s : State) : (popped s).romBankingMode = s.romBankingMode := rfl
@[simp] theorem popped_divAcc (s : State) : (popped s).divAcc = s.divAcc := rfl
@[simp] theorem popped_timaAcc (s : State) : (popped s).timaAcc = s.timaAcc := rfl
@[simp] theorem popped_lineAcc (s : State) : (popped s).lineAcc = s.lineAcc := rfl
@[simp] theorem popped_oamLatch (s : State) : (popped s).oamLatch = s.oamLatch := rfl
@[simp] theorem popped_hblankLatch (s : State) : (popped s).hblankLatch = s.hblankLatch := rfl
@[simp] theorem popped_vblankLatch (s : State) : (popped s).vblankLatch = s.vblankLatch := rfl
@[simp] theorem popped_fb (s : State) : (popped s).fb = s.fb := rfl
@[simp] theorem popped_pressed (s : State) : (popped s).pressed = s.pressed := rfl
@[simp] theorem popped_buttonSchedule (s : State) : (popped s).buttonSchedule = s.buttonSchedule := rfl
@[simp] theorem popped_presented (s : State) : (popped s).presented = s.presented := rfl
@[simp] theorem popped_cycles (s : State) : (popped s).cycles = s.cycles := rfl

/-! ### `setRomBank` -/

@[simp] theorem setRomBank_params (k : BitVec 7) (s : State) : (setRomBank k s).params = s.params := rfl
@[simp] theorem setRomBank_a (k : BitVec 7) (s : State) : (setRomBank k s).a = s.a := rfl
@[simp] theorem setRomBank_f (k : BitVec 7) (s : State) : (setRomBank k s).f = s.f := rfl
@[simp] theorem setRomBank_b (k : BitVec 7) (s : State) : (setRomBank k s).b = s.b := rfl
@[simp] theorem setRomBank_c (k : BitVec 7) (s : State) : (setRomBank k s).c = s.c := rfl
@[simp] theorem setRomBank_d (k : BitVec 7) (s : State) : (setRomBank k s).d = s.d := rfl
@[simp] theorem setRomBank_e (k : BitVec 7) (s : State) : (setRomBank k s).e = s.e := rfl
@[simp] theorem setRomBank_h (k : BitVec 7) (s : State) : (setRomBank k s).h = s.h := rfl
@[simp] theorem setRomBank_l (k : BitVec 7) (s : State) : (setRomBank k s).l = s.l := rfl
@[simp] theorem setRomBank_sp (k : BitVec 7) (s : State) : (setRomBank k s).sp = s.sp := rfl
@[simp] theorem setRomBank_pc (k : BitVec 7) (s : State) : (setRomBank k s).pc = s.pc := rfl
@[simp] theorem setRomBank_ime (k : BitVec 7) (s : State) : (setRomBank k s).ime = s.ime := rfl
@[simp] theorem setRomBank_imePend (k : BitVec 7) (s : State) : (setRomBank k s).imePend = s.imePend := rfl
@[simp] theorem setRomBank_imePendFresh (k : BitVec 7) (s : State) : (setRomBank k s).imePendFresh = s.imePendFresh := rfl
@[simp] theorem setRomBank_halted (k : BitVec 7) (s : State) : (setRomBank k s).halted = s.halted := rfl
@[simp] theorem setRomBank_stopped (k : BitVec 7) (s : State) : (setRomBank k s).stopped = s.stopped := rfl
@[simp] theorem setRomBank_savedP1 (k : BitVec 7) (s : State) : (setRomBank k s).savedP1 = s.savedP1 := rfl
@[simp] theorem setRomBank_savedLcdc (k : BitVec 7) (s : State) : (setRomBank k s).savedLcdc = s.savedLcdc := rfl
@[simp] theorem setRomBank_savedTac (k : BitVec 7) (s : State) : (setRomBank k s).savedTac = s.savedTac := rfl
@[simp] theorem setRomBank_fault (k : BitVec 7) (s : State) : (setRomBank k s).fault = s.fault := rfl
@[simp] theorem setRomBank_raw (k : BitVec 7) (s : State) : (setRomBank k s).raw = s.raw := rfl
@[simp] theorem setRomBank_romImage (k : BitVec 7) (s : State) : (setRomBank k s).romImage = s.romImage := rfl
@[simp] theorem setRomBank_romLen (k : BitVec 7) (s : State) : (setRomBank k s).romLen = s.romLen := rfl
@[simp] theorem setRomBank_ramBanks (k : BitVec 7) (s : State) : (setRomBank k s).ramBanks = s.ramBanks := rfl
@[simp] theorem setRomBank_family (k : BitVec 7) (s : State) : (setRomBank k s).family = s.family := rfl
@[simp] theorem setRomBank_hasBattery (k : BitVec 7) (s : State) : (setRomBank k s).hasBattery = s.hasBattery := rfl
@[simp] theorem setRomBank_romBankCount (k : BitVec 7) (s : State) : (setRomBank k s).romBankCount = s.romBankCount := rfl
@[simp] theorem setRomBank_romBank (k : BitVec 7) (s : State) : (setRomBank k s).romBank = if k = 0 then 1 else k := rfl
@[simp] theorem setRomBank_ramBank (k : BitVec 7) (s : State) : (setRomBank k s).ramBank = s.ramBank := rfl
@[simp] theorem setRomBank_ramEnabled (k : BitVec 7) (s : State) : (setRomBank k s).ramEnabled = s.ramEnabled := rfl
@[simp] theorem setRomBank_romBankingMode (k : BitVec 7) (s : State) : (setRomBank k s).romBankingMode = s.romBankingMode := rfl
@[simp] theorem setRomBank_divAcc (k : BitVec 7) (s : State) : (setRomBank k s).divAcc = s.divAcc := rfl
@[simp] theorem setRomBank_timaAcc (k : BitVec 7) (s : State) : (setRomBank k s).timaAcc = s.timaAcc := rfl
@[simp] theorem setRomBank_lineAcc (k : BitVec 7) (s : State) : (setRomBank k s).lineAcc = s.lineAcc := rfl
@[simp] theorem setRomBank_oamLatch (k : BitVec 7) (s : State) : (setRomBank k s).oamLatch = s.oamLatch := rfl
@[simp] theorem setRomBank_hblankLatch (k : BitVec 7) (s : State) : (setRomBank k s).hblankLatch = s.hblankLatch := rfl
@[simp] theorem setRomBank_vblankLatch (k : BitVec 7) (s : State) : (setRomBank k s).vblankLatch = s.vblankLatch := rfl
@[simp] theorem setRomBank_fb (k : BitVec 7) (s : State) : (setRomBank k s).fb = s.fb := rfl
@[simp] theorem setRomBank_pressed (k : BitVec 7) (s : State) : (setRomBank k s).pressed = s.pressed := rfl
@[simp] theorem setRomBank_buttonSchedule (k : BitVec 7) (s : State) : (setRomBank k s).buttonSchedule = s.buttonSchedule := rfl
@[simp] theorem setRomBank_presented (k : BitVec 7) (s : State) : (setRomBank k s).presented = s.presented := rfl
@[simp] theorem setRomBank_cycles (k : BitVec 7) (s : State) : (setRomBank k s).cycles = s.cycles := rfl

/-! ### `setPending` -/

@[simp] theorem setPending_params (p : ImePend) (s : State) : (setPending p s).params = s.params := rfl
@[simp] theorem setPending_a (p : ImePend) (s : State) : (setPending p s).a = s.a := rfl
@[simp] theorem setPending_f (p : ImePend) (s : State) : (setPending p s).f = s.f := rfl
@[simp] theorem setPending_b (p : ImePend) (s : State) : (setPending p s).b = s.b := rfl
@[simp] theorem setPending_c (p : ImePend) (s : State) : (setPending p s).c = s.c := rfl
@[simp] theorem setPending_d (p : ImePend) (s : State) : (setPending p s).d = s.d := rfl
@[simp] theorem setPending_e (p : ImePend) (s : State) : (setPending p s).e = s.e := rfl
@[simp] theorem setPending_h (p : ImePend) (s : State) : (setPending p s).h = s.h := rfl
@[simp] theorem setPending_l (p : ImePend) (s : State) : (setPending p s).l = s.l := rfl
@[simp] theorem setPending_sp (p : ImePend) (s : State) : (setPending p s).sp = s.sp := rfl
@[simp] theorem setPending_pc (p : ImePend) (s : State) : (setPending p s).pc = s.pc := rfl
@[simp] theorem setPending_ime (p : ImePend) (s : State) : (setPending p s).ime = s.ime := rfl
@[simp] theorem setPending_imePend (p : ImePend) (s : State) : (setPending p s).imePend = p := rfl
@[simp] theorem setPending_imePendFresh (p : ImePend) (s : State) : (setPending p s).imePendFresh = true := rfl
@[simp] theorem setPending_halted (p : ImePend) (s : State) : (setPending p s).halted = s.halted := rfl
@[simp] theorem setPending_stopped (p : ImePend) (s : State) : (setPending p s).stopped = s.stopped := rfl
@[simp] theorem setPending_savedP1 (p : ImePend) (s : State) : (setPending p s).savedP1 = s.savedP1 := rfl
@[simp] theorem setPending_savedLcdc (p : ImePend) (s : State) : (setPending p s).savedLcdc = s.savedLcdc := rfl
@[simp] theorem setPending_savedTac (p : ImePend) (s : State) : (setPending p s).savedTac = s.savedTac := rfl
@[simp] theorem setPending_fault (p : ImePend) (s : State) : (setPending p s).fault = s.fault := rfl
@[simp] theorem setPending_raw (p : ImePend) (s : State) : (setPending p s).raw = s.raw := rfl
@[simp] theorem setPending_romImage (p : ImePend) (s : State) : (setPending p s).romImage = s.romImage := rfl
@[simp] theorem setPending_romLen (p : ImePend) (s : State) : (setPending p s).romLen = s.romLen := rfl
@[simp] theorem setPending_ramBanks (p : ImePend) (s : State) : (setPending p s).ramBanks = s.ramBanks := rfl
@[simp] theorem setPending_family (p : ImePend) (s : State) : (setPending p s).family = s.family := rfl
@[simp] theorem setPending_hasBattery (p : ImePend) (s : State) : (setPending p s).hasBattery = s.hasBattery := rfl
@[simp] theorem setPending_romBankCount (p : ImePend) (s : State) : (setPending p s).romBankCount = s.romBankCount := rfl
@[simp] theorem setPending_romBank (p : ImePend) (s : State) : (setPending p s).romBank = s.romBank := rfl
@[simp] theorem setPending_ramBank (p : ImePend) (s : State) : (setPending p s).ramBank = s.ramBank := rfl
@[simp] theorem setPending_ramEnabled (p : ImePend) (s : State) : (setPending p s).ramEnabled = s.ramEnabled := rfl
@[simp] theorem setPending_romBankingMode (p : ImePend) (s : State) : (setPending p s).romBankingMode = s.romBankingMode := rfl
@[simp] theorem setPending_divAcc (p : ImePend) (s : State) : (setPending p s).divAcc = s.divAcc := rfl
@[simp] theorem setPending_timaAcc (p : ImePend) (s : State) : (setPending p s).timaAcc = s.timaAcc := rfl
@[simp] theorem setPending_lineAcc (p : ImePend) (s : State) : (setPending p s).lineAcc = s.lineAcc := rfl
@[simp] theorem setPending_oamLatch (p : ImePend) (s : State) : (setPending p s).oamLatch = s.oamLatch := rfl
@[simp] theorem setPending_hblankLatch (p : ImePend) (s : State) : (setPending p s).hblankLatch = s.hblankLatch := rfl
@[simp] theorem setPending_vblankLatch (p : ImePend) (s : State) : (setPending p s).vblankLatch = s.vblankLatch := rfl
@[simp] theorem setPending_fb (p : ImePend) (s : State) : (setPending p s).fb = s.fb := rfl
@[simp] theorem setPending_pressed (p : ImePend) (s : State) : (setPending p s).pressed = s.pressed := rfl
@[simp] theorem setPending_buttonSchedule (p : ImePend) (s : State) : (setPending p s).buttonSchedule = s.buttonSchedule := rfl
@[simp] theorem setPending_presented (p : ImePend) (s : State) : (setPending p s).presented = s.presented := rfl
@[simp] theorem setPending_cycles (p : ImePend) (s : State) : (setPending p s).cycles = s.cycles := rfl

/-! ### `presentFrame` -/

@[simp] theorem presentFrame_params (s : State) : (presentFrame s).params = s.params := rfl
@[simp] theorem presentFrame_a (s : State) : (presentFrame s).a = s.a := rfl
@[simp] theorem presentFrame_f (s : State) : (presentFrame s).f = s.f := rfl
@[simp] theorem presentFrame_b (s : State) : (presentFrame s).b = s.b := rfl
@[simp] theorem presentFrame_c (s : State) : (presentFrame s).c = s.c := rfl
@[simp] theorem presentFrame_d (s : State) : (presentFrame s).d = s.d := rfl
@[simp] theorem presentFrame_e (s : State) : (presentFrame s).e = s.e := rfl
@[simp] theorem presentFrame_h (s : State) : (presentFrame s).h = s.h := rfl
@[simp] theorem presentFrame_l (s : State) : (presentFrame s).l = s.l := rfl
@[simp] theorem presentFrame_sp (s : State) : (presentFrame s).sp = s.sp := rfl
@[simp] theorem presentFrame_pc (s : State) : (presentFrame s).pc = s.pc := rfl
@[simp] theorem presentFrame_ime (s : State) : (presentFrame s).ime = s.ime := rfl
@[simp] theorem presentFrame_imePend (s : State) : (presentFrame s).imePend = s.imePend := rfl
@[simp] theorem presentFrame_imePendFresh (s : State) : (presentFrame s).imePendFresh = s.imePendFresh := rfl
@[simp] theorem presentFrame_halted (s : State) : (presentFrame s).halted = s.halted := rfl
@[simp] theorem presentFrame_stopped (s : State) : (presentFrame s).stopped = s.stopped := rfl
@[simp] theorem presentFrame_savedP1 (s : State) : (presentFrame s).savedP1 = s.savedP1 := rfl
@[simp] theorem presentFrame_savedLcdc (s : State) : (presentFrame s).savedLcdc = s.savedLcdc := rfl
@[simp] theorem presentFrame_savedTac (s : State) : (presentFrame s).savedTac = s.savedTac := rfl
@[simp] theorem presentFrame_fault (s : State) : (presentFrame s).fault = s.fault := rfl
@[simp] theorem presentFrame_raw (s : State) : (presentFrame s).raw = s.raw := rfl
@[simp] theorem presentFrame_romImage (s : State) : (presentFrame s).romImage = s.romImage := rfl
@[simp] theorem presentFrame_romLen (s : State) : (presentFrame s).romLen = s.romLen := rfl
@[simp] theorem presentFrame_ramBanks (s : State) : (presentFrame s).ramBanks = s.ramBanks := rfl
@[simp] theorem presentFrame_family (s : State) : (presentFrame s).family = s.family := rfl
@[simp] theorem presentFrame_hasBattery (s : State) : (presentFrame s).hasBattery = s.hasBattery := rfl
@[simp] theorem presentFrame_romBankCount (s : State) : (presentFrame s).romBankCount = s.romBankCount := rfl
@[simp] theorem presentFrame_romBank (s : State) : (presentFrame s).romBank = s.romBank := rfl
@[simp] theorem presentFrame_ramBank (s : State) : (presentFrame s).ramBank = s.ramBank := rfl
@[simp] theorem presentFrame_ramEnabled (s : State) : (presentFrame s).ramEnabled = s.ramEnabled := rfl
@[simp] theorem presentFrame_romBankingMode (s : State) : (presentFrame s).romBankingMode = s.romBankingMode := rfl
@[simp] theorem presentFrame_divAcc (s : State) : (presentFrame s).divAcc = s.divAcc := rfl
@[simp] theorem presentFrame_timaAcc (s : State) : (presentFrame s).timaAcc = s.timaAcc := rfl
@[simp] theorem presentFrame_lineAcc (s : State) : (presentFrame s).lineAcc = s.lineAcc := rfl
@[simp] theorem presentFrame_oamLatch (s : State) : (presentFrame s).oamLatch = s.oamLatch := rfl
@[simp] theorem presentFrame_hblankLatch (s : State) : (presentFrame s).hblankLatch = s.hblankLatch := rfl
@[simp] theorem presentFrame_vblankLatch (s : State) : (presentFrame s).vblankLatch = s.vblankLatch := rfl
@[simp] theorem presentFrame_fb (s : State) : (presentFrame s).fb = s.fb := rfl
@[simp] theorem presentFrame_pressed (s : State) : (presentFrame s).pressed = s.pressed := rfl
@[simp] theorem presentFrame_buttonSchedule (s : State) : (presentFrame s).buttonSchedule = s.buttonSchedule := rfl
@[simp] theorem presentFrame_presented (s : State) : (presentFrame s).presented = some s.fb := rfl
@[simp] theorem presentFrame_cycles (s : State) : (presentFrame s).cycles = s.cycles := rfl

/-! ### `renderLine` -/

@[simp] theorem renderLine_params (y : Nat) (s : State) : (renderLine y s).params = s.params := rfl
@[simp] theorem renderLine_a (y : Nat) (s : State) : (renderLine y s).a = s.a := rfl
@[simp] theorem renderLine_f (y : Nat) (s : State) : (renderLine y s).f = s.f := rfl
@[simp] theorem renderLine_b (y : Nat) (s : State) : (renderLine y s).b = s.b := rfl
@[simp] theorem renderLine_c (y : Nat) (s : State) : (renderLine y s).c = s.c := rfl
@[simp] theorem renderLine_d (y : Nat) (s : State) : (renderLine y s).d = s.d := rfl
@[simp] theorem renderLine_e (y : Nat) (s : State) : (renderLine y s).e = s.e := rfl
@[simp] theorem renderLine_h (y : Nat) (s : State) : (renderLine y s).h = s.h := rfl
@[simp] theorem renderLine_l (y : Nat) (s : State) : (renderLine y s).l = s.l := rfl
@[simp] theorem renderLine_sp (y : Nat) (s : State) : (renderLine y s).sp = s.sp := rfl
@[simp] theorem renderLine_pc (y : Nat) (s : State) : (renderLine y s).pc = s.pc := rfl
@[simp] theorem renderLine_ime (y : Nat) (s : State) : (renderLine y s).ime = s.ime := rfl
@[simp] theorem renderLine_imePend (y : Nat) (s : State) : (renderLine y s).imePend = s.imePend := rfl
@[simp] theorem renderLine_imePendFresh (y : Nat) (s : State) : (renderLine y s).imePendFresh = s.imePendFresh := rfl
@[simp] theorem renderLine_halted (y : Nat) (s : State) : (renderLine y s).halted = s.halted := rfl
@[simp] theorem renderLine_stopped (y : Nat) (s : State) : (renderLine y s).stopped = s.stopped := rfl
@[simp] theorem renderLine_savedP1 (y : Nat) (s : State) : (renderLine y s).savedP1 = s.savedP1 := rfl
@[simp] theorem renderLine_savedLcdc (y : Nat) (s : State) : (renderLine y s).savedLcdc = s.savedLcdc := rfl
@[simp] theorem renderLine_savedTac (y : Nat) (s : State) : (renderLine y s).savedTac = s.savedTac := rfl
@[simp] theorem renderLine_fault (y : Nat) (s : State) : (renderLine y s).fault = s.fault := rfl
@[simp] theorem renderLine_raw (y : Nat) (s : State) : (renderLine y s).raw = s.raw := rfl
@[simp] theorem renderLine_romImage (y : Nat) (s : State) : (renderLine y s).romImage = s.romImage := rfl
@[simp] theorem renderLine_romLen (y : Nat) (s : State) : (renderLine y s).romLen = s.romLen := rfl
@[simp] theorem renderLine_ramBanks (y : Nat) (s : State) : (renderLine y s).ramBanks = s.ramBanks := rfl
@[simp] theorem renderLine_family (y : Nat) (s : State) : (renderLine y s).family = s.family := rfl
@[simp] theorem renderLine_hasBattery (y : Nat) (s : State) : (renderLine y s).hasBattery = s.hasBattery := rfl
@[simp] theorem renderLine_romBankCount (y : Nat) (s : State) : (renderLine y s).romBankCount = s.romBankCount := rfl
@[simp] theorem renderLine_romBank (y : Nat) (s : State) : (renderLine y s).romBank = s.romBank := rfl
@[simp] theorem renderLine_ramBank (y : Nat) (s : State) : (renderLine y s).ramBank = s.ramBank := rfl
@[simp] theorem renderLine_ramEnabled (y : Nat) (s : State) : (renderLine y s).ramEnabled = s.ramEnabled := rfl
@[simp] theorem renderLine_romBankingMode (y : Nat) (s : State) : (renderLine y s).romBankingMode = s.romBankingMode := rfl
@[simp] theorem renderLine_divAcc (y : Nat) (s : State) : (renderLine y s).divAcc = s.divAcc := rfl
@[simp] theorem renderLine_timaAcc (y : Nat) (s : State) : (renderLine y s).timaAcc = s.timaAcc := rfl
@[simp] theorem renderLine_lineAcc (y : Nat) (s : State) : (renderLine y s).lineAcc = s.lineAcc := rfl
@[simp] theorem renderLine_oamLatch (y : Nat) (s : State) : (renderLine y s).oamLatch = s.oamLatch := rfl
@[simp] theorem renderLine_hblankLatch (y : Nat) (s : State) : (renderLine y s).hblankLatch = s.hblankLatch := rfl
@[simp] theorem renderLine_vblankLatch (y : Nat) (s : State) : (renderLine y s).vblankLatch = s.vblankLatch := rfl
@[simp] theorem renderLine_fb (y : Nat) (s : State) : (renderLine y s).fb = Memory.write blankRow s.fb y (renderedRow s y) := rfl
@[simp] theorem renderLine_pressed (y : Nat) (s : State) : (renderLine y s).pressed = s.pressed := rfl
@[simp] theorem renderLine_buttonSchedule (y : Nat) (s : State) : (renderLine y s).buttonSchedule = s.buttonSchedule := rfl
@[simp] theorem renderLine_presented (y : Nat) (s : State) : (renderLine y s).presented = s.presented := rfl
@[simp] theorem renderLine_cycles (y : Nat) (s : State) : (renderLine y s).cycles = s.cycles := rfl

/-! ### `requestInterrupt` -/

@[simp] theorem requestInterrupt_params (i : Nat) (s : State) : (requestInterrupt i s).params = s.params := rfl
@[simp] theorem requestInterrupt_a (i : Nat) (s : State) : (requestInterrupt i s).a = s.a := rfl
@[simp] theorem requestInterrupt_f (i : Nat) (s : State) : (requestInterrupt i s).f = s.f := rfl
@[simp] theorem requestInterrupt_b (i : Nat) (s : State) : (requestInterrupt i s).b = s.b := rfl
@[simp] theorem requestInterrupt_c (i : Nat) (s : State) : (requestInterrupt i s).c = s.c := rfl
@[simp] theorem requestInterrupt_d (i : Nat) (s : State) : (requestInterrupt i s).d = s.d := rfl
@[simp] theorem requestInterrupt_e (i : Nat) (s : State) : (requestInterrupt i s).e = s.e := rfl
@[simp] theorem requestInterrupt_h (i : Nat) (s : State) : (requestInterrupt i s).h = s.h := rfl
@[simp] theorem requestInterrupt_l (i : Nat) (s : State) : (requestInterrupt i s).l = s.l := rfl
@[simp] theorem requestInterrupt_sp (i : Nat) (s : State) : (requestInterrupt i s).sp = s.sp := rfl
@[simp] theorem requestInterrupt_pc (i : Nat) (s : State) : (requestInterrupt i s).pc = s.pc := rfl
@[simp] theorem requestInterrupt_ime (i : Nat) (s : State) : (requestInterrupt i s).ime = s.ime := rfl
@[simp] theorem requestInterrupt_imePend (i : Nat) (s : State) : (requestInterrupt i s).imePend = s.imePend := rfl
@[simp] theorem requestInterrupt_imePendFresh (i : Nat) (s : State) : (requestInterrupt i s).imePendFresh = s.imePendFresh := rfl
@[simp] theorem requestInterrupt_halted (i : Nat) (s : State) : (requestInterrupt i s).halted = s.halted := rfl
@[simp] theorem requestInterrupt_stopped (i : Nat) (s : State) : (requestInterrupt i s).stopped = s.stopped := rfl
@[simp] theorem requestInterrupt_savedP1 (i : Nat) (s : State) : (requestInterrupt i s).savedP1 = s.savedP1 := rfl
@[simp] theorem requestInterrupt_savedLcdc (i : Nat) (s : State) : (requestInterrupt i s).savedLcdc = s.savedLcdc := rfl
@[simp] theorem requestInterrupt_savedTac (i : Nat) (s : State) : (requestInterrupt i s).savedTac = s.savedTac := rfl
@[simp] theorem requestInterrupt_fault (i : Nat) (s : State) : (requestInterrupt i s).fault = s.fault := rfl
@[simp] theorem requestInterrupt_raw (i : Nat) (s : State) : (requestInterrupt i s).raw = Memory.write rawReset s.raw ioIf (s.rawRead ioIf ||| (1#8 <<< i)) := rfl
@[simp] theorem requestInterrupt_romImage (i : Nat) (s : State) : (requestInterrupt i s).romImage = s.romImage := rfl
@[simp] theorem requestInterrupt_romLen (i : Nat) (s : State) : (requestInterrupt i s).romLen = s.romLen := rfl
@[simp] theorem requestInterrupt_ramBanks (i : Nat) (s : State) : (requestInterrupt i s).ramBanks = s.ramBanks := rfl
@[simp] theorem requestInterrupt_family (i : Nat) (s : State) : (requestInterrupt i s).family = s.family := rfl
@[simp] theorem requestInterrupt_hasBattery (i : Nat) (s : State) : (requestInterrupt i s).hasBattery = s.hasBattery := rfl
@[simp] theorem requestInterrupt_romBankCount (i : Nat) (s : State) : (requestInterrupt i s).romBankCount = s.romBankCount := rfl
@[simp] theorem requestInterrupt_romBank (i : Nat) (s : State) : (requestInterrupt i s).romBank = s.romBank := rfl
@[simp] theorem requestInterrupt_ramBank (i : Nat) (s : State) : (requestInterrupt i s).ramBank = s.ramBank := rfl
@[simp] theorem requestInterrupt_ramEnabled (i : Nat) (s : State) : (requestInterrupt i s).ramEnabled = s.ramEnabled := rfl
@[simp] theorem requestInterrupt_romBankingMode (i : Nat) (s : State) : (requestInterrupt i s).romBankingMode = s.romBankingMode := rfl
@[simp] theorem requestInterrupt_divAcc (i : Nat) (s : State) : (requestInterrupt i s).divAcc = s.divAcc := rfl
@[simp] theorem requestInterrupt_timaAcc (i : Nat) (s : State) : (requestInterrupt i s).timaAcc = s.timaAcc := rfl
@[simp] theorem requestInterrupt_lineAcc (i : Nat) (s : State) : (requestInterrupt i s).lineAcc = s.lineAcc := rfl
@[simp] theorem requestInterrupt_oamLatch (i : Nat) (s : State) : (requestInterrupt i s).oamLatch = s.oamLatch := rfl
@[simp] theorem requestInterrupt_hblankLatch (i : Nat) (s : State) : (requestInterrupt i s).hblankLatch = s.hblankLatch := rfl
@[simp] theorem requestInterrupt_vblankLatch (i : Nat) (s : State) : (requestInterrupt i s).vblankLatch = s.vblankLatch := rfl
@[simp] theorem requestInterrupt_fb (i : Nat) (s : State) : (requestInterrupt i s).fb = s.fb := rfl
@[simp] theorem requestInterrupt_pressed (i : Nat) (s : State) : (requestInterrupt i s).pressed = s.pressed := rfl
@[simp] theorem requestInterrupt_buttonSchedule (i : Nat) (s : State) : (requestInterrupt i s).buttonSchedule = s.buttonSchedule := rfl
@[simp] theorem requestInterrupt_presented (i : Nat) (s : State) : (requestInterrupt i s).presented = s.presented := rfl
@[simp] theorem requestInterrupt_cycles (i : Nat) (s : State) : (requestInterrupt i s).cycles = s.cycles := rfl

/-! ### `setReg` -/

@[simp] theorem setReg_params (s : State) (r : Reg8) (v : Byte) : (s.setReg r v).params = s.params := by cases r <;> rfl
@[simp] theorem setReg_f (s : State) (r : Reg8) (v : Byte) : (s.setReg r v).f = s.f := by cases r <;> rfl
@[simp] theorem setReg_sp (s : State) (r : Reg8) (v : Byte) : (s.setReg r v).sp = s.sp := by cases r <;> rfl
@[simp] theorem setReg_pc (s : State) (r : Reg8) (v : Byte) : (s.setReg r v).pc = s.pc := by cases r <;> rfl
@[simp] theorem setReg_ime (s : State) (r : Reg8) (v : Byte) : (s.setReg r v).ime = s.ime := by cases r <;> rfl
@[simp] theorem setReg_imePend (s : State) (r : Reg8) (v : Byte) : (s.setReg r v).imePend = s.imePend := by cases r <;> rfl
@[simp] theorem setReg_imePendFresh (s : State) (r : Reg8) (v : Byte) : (s.setReg r v).imePendFresh = s.imePendFresh := by cases r <;> rfl
@[simp] theorem setReg_halted (s : State) (r : Reg8) (v : Byte) : (s.setReg r v).halted = s.halted := by cases r <;> rfl
@[simp] theorem setReg_stopped (s : State) (r : Reg8) (v : Byte) : (s.setReg r v).stopped = s.stopped := by cases r <;> rfl
@[simp] theorem setReg_savedP1 (s : State) (r : Reg8) (v : Byte) : (s.setReg r v).savedP1 = s.savedP1 := by cases r <;> rfl
@[simp] theorem setReg_savedLcdc (s : State) (r : Reg8) (v : Byte) : (s.setReg r v).savedLcdc = s.savedLcdc := by cases r <;> rfl
@[simp] theorem setReg_savedTac (s : State) (r : Reg8) (v : Byte) : (s.setReg r v).savedTac = s.savedTac := by cases r <;> rfl
@[simp] theorem setReg_fault (s : State) (r : Reg8) (v : Byte) : (s.setReg r v).fault = s.fault := by cases r <;> rfl
@[simp] theorem setReg_raw (s : State) (r : Reg8) (v : Byte) : (s.setReg r v).raw = s.raw := by cases r <;> rfl
@[simp] theorem setReg_romImage (s : State) (r : Reg8) (v : Byte) : (s.setReg r v).romImage = s.romImage := by cases r <;> rfl
@[simp] theorem setReg_romLen (s : State) (r : Reg8) (v : Byte) : (s.setReg r v).romLen = s.romLen := by cases r <;> rfl
@[simp] theorem setReg_ramBanks (s : State) (r : Reg8) (v : Byte) : (s.setReg r v).ramBanks = s.ramBanks := by cases r <;> rfl
@[simp] theorem setReg_family (s : State) (r : Reg8) (v : Byte) : (s.setReg r v).family = s.family := by cases r <;> rfl
@[simp] theorem setReg_hasBattery (s : State) (r : Reg8) (v : Byte) : (s.setReg r v).hasBattery = s.hasBattery := by cases r <;> rfl
@[simp] theorem setReg_romBankCount (s : State) (r : Reg8) (v : Byte) : (s.setReg r v).romBankCount = s.romBankCount := by cases r <;> rfl
@[simp] theorem setReg_romBank (s : State) (r : Reg8) (v : Byte) : (s.setReg r v).romBank = s.romBank := by cases r <;> rfl
@[simp] theorem setReg_ramBank (s : State) (r : Reg8) (v : Byte) : (s.setReg r v).ramBank = s.ramBank := by cases r <;> rfl
@[simp] theorem setReg_ramEnabled (s : State) (r : Reg8) (v : Byte) : (s.setReg r v).ramEnabled = s.ramEnabled := by cases r <;> rfl
@[simp] theorem setReg_romBankingMode (s : State) (r : Reg8) (v : Byte) : (s.setReg r v).romBankingMode = s.romBankingMode := by cases r <;> rfl
@[simp] theorem setReg_divAcc (s : State) (r : Reg8) (v : Byte) : (s.setReg r v).divAcc = s.divAcc := by cases r <;> rfl
@[simp] theorem setReg_timaAcc (s : State) (r : Reg8) (v : Byte) : (s.setReg r v).timaAcc = s.timaAcc := by cases r <;> rfl
@[simp] theorem setReg_lineAcc (s : State) (r : Reg8) (v : Byte) : (s.setReg r v).lineAcc = s.lineAcc := by cases r <;> rfl
@[simp] theorem setReg_oamLatch (s : State) (r : Reg8) (v : Byte) : (s.setReg r v).oamLatch = s.oamLatch := by cases r <;> rfl
@[simp] theorem setReg_hblankLatch (s : State) (r : Reg8) (v : Byte) : (s.setReg r v).hblankLatch = s.hblankLatch := by cases r <;> rfl
@[simp] theorem setReg_vblankLatch (s : State) (r : Reg8) (v : Byte) : (s.setReg r v).vblankLatch = s.vblankLatch := by cases r <;> rfl
@[simp] theorem setReg_fb (s : State) (r : Reg8) (v : Byte) : (s.setReg r v).fb = s.fb := by cases r <;> rfl
@[simp] theorem setReg_pressed (s : State) (r : Reg8) (v : Byte) : (s.setReg r v).pressed = s.pressed := by cases r <;> rfl
@[simp] theorem setReg_buttonSchedule (s : State) (r : Reg8) (v : Byte) : (s.setReg r v).buttonSchedule = s.buttonSchedule := by cases r <;> rfl
@[simp] theorem setReg_presented (s : State) (r : Reg8) (v : Byte) : (s.setReg r v).presented = s.presented := by cases r <;> rfl
@[simp] theorem setReg_cycles (s : State) (r : Reg8) (v : Byte) : (s.setReg r v).cycles = s.cycles := by cases r <;> rfl

/-! ### `setPair` -/

@[simp] theorem setPair_params (s : State) (p : Pair) (v : Word) : (s.setPair p v).params = s.params := by cases p <;> rfl
@[simp] theorem setPair_a (s : State) (p : Pair) (v : Word) : (s.setPair p v).a = s.a := by cases p <;> rfl
@[simp] theorem setPair_f (s : State) (p : Pair) (v : Word) : (s.setPair p v).f = s.f := by cases p <;> rfl
@[simp] theorem setPair_pc (s : State) (p : Pair) (v : Word) : (s.setPair p v).pc = s.pc := by cases p <;> rfl
@[simp] theorem setPair_ime (s : State) (p : Pair) (v : Word) : (s.setPair p v).ime = s.ime := by cases p <;> rfl
@[simp] theorem setPair_imePend (s : State) (p : Pair) (v : Word) : (s.setPair p v).imePend = s.imePend := by cases p <;> rfl
@[simp] theorem setPair_imePendFresh (s : State) (p : Pair) (v : Word) : (s.setPair p v).imePendFresh = s.imePendFresh := by cases p <;> rfl
@[simp] theorem setPair_halted (s : State) (p : Pair) (v : Word) : (s.setPair p v).halted = s.halted := by cases p <;> rfl
@[simp] theorem setPair_stopped (s : State) (p : Pair) (v : Word) : (s.setPair p v).stopped = s.stopped := by cases p <;> rfl
@[simp] theorem setPair_savedP1 (s : State) (p : Pair) (v : Word) : (s.setPair p v).savedP1 = s.savedP1 := by cases p <;> rfl
@[simp] theorem setPair_savedLcdc (s : State) (p : Pair) (v : Word) : (s.setPair p v).savedLcdc = s.savedLcdc := by cases p <;> rfl
@[simp] theorem setPair_savedTac (s : State) (p : Pair) (v : Word) : (s.setPair p v).savedTac = s.savedTac := by cases p <;> rfl
@[simp] theorem setPair_fault (s : State) (p : Pair) (v : Word) : (s.setPair p v).fault = s.fault := by cases p <;> rfl
@[simp] theorem setPair_raw (s : State) (p : Pair) (v : Word) : (s.setPair p v).raw = s.raw := by cases p <;> rfl
@[simp] theorem setPair_romImage (s : State) (p : Pair) (v : Word) : (s.setPair p v).romImage = s.romImage := by cases p <;> rfl
@[simp] theorem setPair_romLen (s : State) (p : Pair) (v : Word) : (s.setPair p v).romLen = s.romLen := by cases p <;> rfl
@[simp] theorem setPair_ramBanks (s : State) (p : Pair) (v : Word) : (s.setPair p v).ramBanks = s.ramBanks := by cases p <;> rfl
@[simp] theorem setPair_family (s : State) (p : Pair) (v : Word) : (s.setPair p v).family = s.family := by cases p <;> rfl
@[simp] theorem setPair_hasBattery (s : State) (p : Pair) (v : Word) : (s.setPair p v).hasBattery = s.hasBattery := by cases p <;> rfl
@[simp] theorem setPair_romBankCount (s : State) (p : Pair) (v : Word) : (s.setPair p v).romBankCount = s.romBankCount := by cases p <;> rfl
@[simp] theorem setPair_romBank (s : State) (p : Pair) (v : Word) : (s.setPair p v).romBank = s.romBank := by cases p <;> rfl
@[simp] theorem setPair_ramBank (s : State) (p : Pair) (v : Word) : (s.setPair p v).ramBank = s.ramBank := by cases p <;> rfl
@[simp] theorem setPair_ramEnabled (s : State) (p : Pair) (v : Word) : (s.setPair p v).ramEnabled = s.ramEnabled := by cases p <;> rfl
@[simp] theorem setPair_romBankingMode (s : State) (p : Pair) (v : Word) : (s.setPair p v).romBankingMode = s.romBankingMode := by cases p <;> rfl
@[simp] theorem setPair_divAcc (s : State) (p : Pair) (v : Word) : (s.setPair p v).divAcc = s.divAcc := by cases p <;> rfl
@[simp] theorem setPair_timaAcc (s : State) (p : Pair) (v : Word) : (s.setPair p v).timaAcc = s.timaAcc := by cases p <;> rfl
@[simp] theorem setPair_lineAcc (s : State) (p : Pair) (v : Word) : (s.setPair p v).lineAcc = s.lineAcc := by cases p <;> rfl
@[simp] theorem setPair_oamLatch (s : State) (p : Pair) (v : Word) : (s.setPair p v).oamLatch = s.oamLatch := by cases p <;> rfl
@[simp] theorem setPair_hblankLatch (s : State) (p : Pair) (v : Word) : (s.setPair p v).hblankLatch = s.hblankLatch := by cases p <;> rfl
@[simp] theorem setPair_vblankLatch (s : State) (p : Pair) (v : Word) : (s.setPair p v).vblankLatch = s.vblankLatch := by cases p <;> rfl
@[simp] theorem setPair_fb (s : State) (p : Pair) (v : Word) : (s.setPair p v).fb = s.fb := by cases p <;> rfl
@[simp] theorem setPair_pressed (s : State) (p : Pair) (v : Word) : (s.setPair p v).pressed = s.pressed := by cases p <;> rfl
@[simp] theorem setPair_buttonSchedule (s : State) (p : Pair) (v : Word) : (s.setPair p v).buttonSchedule = s.buttonSchedule := by cases p <;> rfl
@[simp] theorem setPair_presented (s : State) (p : Pair) (v : Word) : (s.setPair p v).presented = s.presented := by cases p <;> rfl
@[simp] theorem setPair_cycles (s : State) (p : Pair) (v : Word) : (s.setPair p v).cycles = s.cycles := by cases p <;> rfl

/-! ### `setStackPair` -/

@[simp] theorem setStackPair_params (s : State) (p : StackPair) (v : Word) : (s.setStackPair p v).params = s.params := by cases p <;> rfl
@[simp] theorem setStackPair_sp (s : State) (p : StackPair) (v : Word) : (s.setStackPair p v).sp = s.sp := by cases p <;> rfl
@[simp] theorem setStackPair_pc (s : State) (p : StackPair) (v : Word) : (s.setStackPair p v).pc = s.pc := by cases p <;> rfl
@[simp] theorem setStackPair_ime (s : State) (p : StackPair) (v : Word) : (s.setStackPair p v).ime = s.ime := by cases p <;> rfl
@[simp] theorem setStackPair_imePend (s : State) (p : StackPair) (v : Word) : (s.setStackPair p v).imePend = s.imePend := by cases p <;> rfl
@[simp] theorem setStackPair_imePendFresh (s : State) (p : StackPair) (v : Word) : (s.setStackPair p v).imePendFresh = s.imePendFresh := by cases p <;> rfl
@[simp] theorem setStackPair_halted (s : State) (p : StackPair) (v : Word) : (s.setStackPair p v).halted = s.halted := by cases p <;> rfl
@[simp] theorem setStackPair_stopped (s : State) (p : StackPair) (v : Word) : (s.setStackPair p v).stopped = s.stopped := by cases p <;> rfl
@[simp] theorem setStackPair_savedP1 (s : State) (p : StackPair) (v : Word) : (s.setStackPair p v).savedP1 = s.savedP1 := by cases p <;> rfl
@[simp] theorem setStackPair_savedLcdc (s : State) (p : StackPair) (v : Word) : (s.setStackPair p v).savedLcdc = s.savedLcdc := by cases p <;> rfl
@[simp] theorem setStackPair_savedTac (s : State) (p : StackPair) (v : Word) : (s.setStackPair p v).savedTac = s.savedTac := by cases p <;> rfl
@[simp] theorem setStackPair_fault (s : State) (p : StackPair) (v : Word) : (s.setStackPair p v).fault = s.fault := by cases p <;> rfl
@[simp] theorem setStackPair_raw (s : State) (p : StackPair) (v : Word) : (s.setStackPair p v).raw = s.raw := by cases p <;> rfl
@[simp] theorem setStackPair_romImage (s : State) (p : StackPair) (v : Word) : (s.setStackPair p v).romImage = s.romImage := by cases p <;> rfl
@[simp] theorem setStackPair_romLen (s : State) (p : StackPair) (v : Word) : (s.setStackPair p v).romLen = s.romLen := by cases p <;> rfl
@[simp] theorem setStackPair_ramBanks (s : State) (p : StackPair) (v : Word) : (s.setStackPair p v).ramBanks = s.ramBanks := by cases p <;> rfl
@[simp] theorem setStackPair_family (s : State) (p : StackPair) (v : Word) : (s.setStackPair p v).family = s.family := by cases p <;> rfl
@[simp] theorem setStackPair_hasBattery (s : State) (p : StackPair) (v : Word) : (s.setStackPair p v).hasBattery = s.hasBattery := by cases p <;> rfl
@[simp] theorem setStackPair_romBankCount (s : State) (p : StackPair) (v : Word) : (s.setStackPair p v).romBankCount = s.romBankCount := by cases p <;> rfl
@[simp] theorem setStackPair_romBank (s : State) (p : StackPair) (v : Word) : (s.setStackPair p v).romBank = s.romBank := by cases p <;> rfl
@[simp] theorem setStackPair_ramBank (s : State) (p : StackPair) (v : Word) : (s.setStackPair p v).ramBank = s.ramBank := by cases p <;> rfl
@[simp] theorem setStackPair_ramEnabled (s : State) (p : StackPair) (v : Word) : (s.setStackPair p v).ramEnabled = s.ramEnabled := by cases p <;> rfl
@[simp] theorem setStackPair_romBankingMode (s : State) (p : StackPair) (v : Word) : (s.setStackPair p v).romBankingMode = s.romBankingMode := by cases p <;> rfl
@[simp] theorem setStackPair_divAcc (s : State) (p : StackPair) (v : Word) : (s.setStackPair p v).divAcc = s.divAcc := by cases p <;> rfl
@[simp] theorem setStackPair_timaAcc (s : State) (p : StackPair) (v : Word) : (s.setStackPair p v).timaAcc = s.timaAcc := by cases p <;> rfl
@[simp] theorem setStackPair_lineAcc (s : State) (p : StackPair) (v : Word) : (s.setStackPair p v).lineAcc = s.lineAcc := by cases p <;> rfl
@[simp] theorem setStackPair_oamLatch (s : State) (p : StackPair) (v : Word) : (s.setStackPair p v).oamLatch = s.oamLatch := by cases p <;> rfl
@[simp] theorem setStackPair_hblankLatch (s : State) (p : StackPair) (v : Word) : (s.setStackPair p v).hblankLatch = s.hblankLatch := by cases p <;> rfl
@[simp] theorem setStackPair_vblankLatch (s : State) (p : StackPair) (v : Word) : (s.setStackPair p v).vblankLatch = s.vblankLatch := by cases p <;> rfl
@[simp] theorem setStackPair_fb (s : State) (p : StackPair) (v : Word) : (s.setStackPair p v).fb = s.fb := by cases p <;> rfl
@[simp] theorem setStackPair_pressed (s : State) (p : StackPair) (v : Word) : (s.setStackPair p v).pressed = s.pressed := by cases p <;> rfl
@[simp] theorem setStackPair_buttonSchedule (s : State) (p : StackPair) (v : Word) : (s.setStackPair p v).buttonSchedule = s.buttonSchedule := by cases p <;> rfl
@[simp] theorem setStackPair_presented (s : State) (p : StackPair) (v : Word) : (s.setStackPair p v).presented = s.presented := by cases p <;> rfl
@[simp] theorem setStackPair_cycles (s : State) (p : StackPair) (v : Word) : (s.setStackPair p v).cycles = s.cycles := by cases p <;> rfl

end Sys2Proof.Machine
end

