-- ==== Sys2Proof/Laws/Bus.lean ====
section
/-! SUPPORT. What the bus operations can do: for each one, the fields it may write (its `_eq` lemma), the fields it leaves,
what it keeps, and what a read gives after it. -/

namespace Sys2Proof.Machine

open Sys2Proof

/-! ### `Raw` -/

/-- A write to `Raw` leaves every other byte of it. -/
theorem rawRead_rawWrite_other (s : State) (n x : Nat) (v : Byte) (h : x ≠ n) : (s.rawWrite n v).rawRead x = s.rawRead x :=
  Memory.read_write_other rawReset s.raw n x v h

/-- The canonical form of `Raw`. -/
def State.rawWf (s : State) : Bool := Memory.wf rawReset 0x10000 s.raw

/-- In a canonical `Raw`, a byte reads as it was written. -/
theorem rawRead_rawWrite_same (s : State) (n : Nat) (v : Byte) (h : s.rawWf = true) : (s.rawWrite n v).rawRead n = v :=
  Memory.read_write_same rawReset 0x10000 s.raw n v h

theorem rawWf_rawWrite (s : State) (n : Nat) (v : Byte) (hn : n < 0x10000) (h : s.rawWf = true) :
    (s.rawWrite n v).rawWf = true := Memory.wf_write rawReset 0x10000 s.raw n v hn h

/-- A read of `Raw` depends on `Raw` only. -/
theorem rawRead_congr (s t : State) (h : t.raw = s.raw) (n : Nat) : t.rawRead n = s.rawRead n := by
  simp only [State.rawRead, h]

theorem memoryWf_iff (s : State) : s.memoryWf = true ↔
    s.rawWf = true ∧ Memory.wf zeroByte s.romLen s.romImage = true ∧ Memory.wf zeroByte 0x8000 s.ramBanks = true ∧
      Memory.wf blankRow 144 s.fb = true ∧ ∀ row ∈ s.fb, row.2.length = 160 := by
  simp [State.memoryWf, State.rawWf, and_assoc]

/-- Writing `Raw` within the address space keeps every storage canonical. -/
theorem memoryWf_rawWrite (s : State) (n : Nat) (v : Byte) (hn : n < 0x10000) (h : s.memoryWf = true) :
    (s.rawWrite n v).memoryWf = true := by
  obtain ⟨h1, h2⟩ := (memoryWf_iff s).mp h
  exact (memoryWf_iff _).mpr ⟨rawWf_rawWrite s n v hn h1, h2⟩

/-- Two states with the same storages are canonical together. -/
theorem memoryWf_congr (s t : State) (hraw : t.raw = s.raw) (hrom : t.romImage = s.romImage) (hlen : t.romLen = s.romLen)
    (hram : t.ramBanks = s.ramBanks) (hfb : t.fb = s.fb) : t.memoryWf = s.memoryWf := by
  simp only [State.memoryWf, hraw, hrom, hlen, hram, hfb]

/-! ### Requests and the coincidence check -/

theorem requestInterrupt_eq (i : Nat) (s : State) : requestInterrupt i s = { s with raw := (requestInterrupt i s).raw } := rfl

theorem rawRead_requestInterrupt_other (i : Nat) (s : State) (x : Nat) (h : x ≠ ioIf) :
    (requestInterrupt i s).rawRead x = s.rawRead x := rawRead_rawWrite_other s ioIf x _ h

theorem memoryWf_requestInterrupt (i : Nat) (s : State) (h : s.memoryWf = true) : (requestInterrupt i s).memoryWf = true :=
  memoryWf_rawWrite s ioIf _ (by decide) h

theorem checkCoincidence_eq (s : State) : checkCoincidence s = { s with raw := (checkCoincidence s).raw } := by
  unfold checkCoincidence
  split
  · dsimp only
    split <;> rfl
  · rfl

@[simp] theorem checkCoincidence_params (s : State) : (checkCoincidence s).params = s.params := by rw [checkCoincidence_eq]
@[simp] theorem checkCoincidence_a (s : State) : (checkCoincidence s).a = s.a := by rw [checkCoincidence_eq]
@[simp] theorem checkCoincidence_f (s : State) : (checkCoincidence s).f = s.f := by rw [checkCoincidence_eq]
@[simp] theorem checkCoincidence_b (s : State) : (checkCoincidence s).b = s.b := by rw [checkCoincidence_eq]
@[simp] theorem checkCoincidence_c (s : State) : (checkCoincidence s).c = s.c := by rw [checkCoincidence_eq]
@[simp] theorem checkCoincidence_d (s : State) : (checkCoincidence s).d = s.d := by rw [checkCoincidence_eq]
@[simp] theorem checkCoincidence_e (s : State) : (checkCoincidence s).e = s.e := by rw [checkCoincidence_eq]
@[simp] theorem checkCoincidence_h (s : State) : (checkCoincidence s).h = s.h := by rw [checkCoincidence_eq]
@[simp] theorem checkCoincidence_l (s : State) : (checkCoincidence s).l = s.l := by rw [checkCoincidence_eq]
@[simp] theorem checkCoincidence_sp (s : State) : (checkCoincidence s).sp = s.sp := by rw [checkCoincidence_eq]
@[simp] theorem checkCoincidence_pc (s : State) : (checkCoincidence s).pc = s.pc := by rw [checkCoincidence_eq]
@[simp] theorem checkCoincidence_ime (s : State) : (checkCoincidence s).ime = s.ime := by rw [checkCoincidence_eq]
@[simp] theorem checkCoincidence_imePend (s : State) : (checkCoincidence s).imePend = s.imePend := by rw [checkCoincidence_eq]
@[simp] theorem checkCoincidence_imePendFresh (s : State) : (checkCoincidence s).imePendFresh = s.imePendFresh := by rw [checkCoincidence_eq]
@[simp] theorem checkCoincidence_halted (s : State) : (checkCoincidence s).halted = s.halted := by rw [checkCoincidence_eq]
@[simp] theorem checkCoincidence_stopped (s : State) : (checkCoincidence s).stopped = s.stopped := by rw [checkCoincidence_eq]
@[simp] theorem checkCoincidence_savedP1 (s : State) : (checkCoincidence s).savedP1 = s.savedP1 := by rw [checkCoincidence_eq]
@[simp] theorem checkCoincidence_savedLcdc (s : State) : (checkCoincidence s).savedLcdc = s.savedLcdc := by rw [checkCoincidence_eq]
@[simp] theorem checkCoincidence_savedTac (s : State) : (checkCoincidence s).savedTac = s.savedTac := by rw [checkCoincidence_eq]
@[simp] theorem checkCoincidence_fault (s : State) : (checkCoincidence s).fault = s.fault := by rw [checkCoincidence_eq]
@[simp] theorem checkCoincidence_romImage (s : State) : (checkCoincidence s).romImage = s.romImage := by rw [checkCoincidence_eq]
@[simp] theorem checkCoincidence_romLen (s : State) : (checkCoincidence s).romLen = s.romLen := by rw [checkCoincidence_eq]
@[simp] theorem checkCoincidence_ramBanks (s : State) : (checkCoincidence s).ramBanks = s.ramBanks := by rw [checkCoincidence_eq]
@[simp] theorem checkCoincidence_family (s : State) : (checkCoincidence s).family = s.family := by rw [checkCoincidence_eq]
@[simp] theorem checkCoincidence_hasBattery (s : State) : (checkCoincidence s).hasBattery = s.hasBattery := by rw [checkCoincidence_eq]
@[simp] theorem checkCoincidence_romBankCount (s : State) : (checkCoincidence s).romBankCount = s.romBankCount := by rw [checkCoincidence_eq]
@[simp] theorem checkCoincidence_romBank (s : State) : (checkCoincidence s).romBank = s.romBank := by rw [checkCoincidence_eq]
@[simp] theorem checkCoincidence_ramBank (s : State) : (checkCoincidence s).ramBank = s.ramBank := by rw [checkCoincidence_eq]
@[simp] theorem checkCoincidence_ramEnabled (s : State) : (checkCoincidence s).ramEnabled = s.ramEnabled := by rw [checkCoincidence_eq]
@[simp] theorem checkCoincidence_romBankingMode (s : State) : (checkCoincidence s).romBankingMode = s.romBankingMode := by rw [checkCoincidence_eq]
@[simp] theorem checkCoincidence_divAcc (s : State) : (checkCoincidence s).divAcc = s.divAcc := by rw [checkCoincidence_eq]
@[simp] theorem checkCoincidence_timaAcc (s : State) : (checkCoincidence s).timaAcc = s.timaAcc := by rw [checkCoincidence_eq]
@[simp] theorem checkCoincidence_lineAcc (s : State) : (checkCoincidence s).lineAcc = s.lineAcc := by rw [checkCoincidence_eq]
@[simp] theorem checkCoincidence_oamLatch (s : State) : (checkCoincidence s).oamLatch = s.oamLatch := by rw [checkCoincidence_eq]
@[simp] theorem checkCoincidence_hblankLatch (s : State) : (checkCoincidence s).hblankLatch = s.hblankLatch := by rw [checkCoincidence_eq]
@[simp] theorem checkCoincidence_vblankLatch (s : State) : (checkCoincidence s).vblankLatch = s.vblankLatch := by rw [checkCoincidence_eq]
@[simp] theorem checkCoincidence_fb (s : State) : (checkCoincidence s).fb = s.fb := by rw [checkCoincidence_eq]
@[simp] theorem checkCoincidence_pressed (s : State) : (checkCoincidence s).pressed = s.pressed := by rw [checkCoincidence_eq]
@[simp] theorem checkCoincidence_buttonSchedule (s : State) : (checkCoincidence s).buttonSchedule = s.buttonSchedule := by rw [checkCoincidence_eq]
@[simp] theorem checkCoincidence_presented (s : State) : (checkCoincidence s).presented = s.presented := by rw [checkCoincidence_eq]
@[simp] theorem checkCoincidence_cycles (s : State) : (checkCoincidence s).cycles = s.cycles := by rw [checkCoincidence_eq]

/-- The coincidence check writes STAT and IF only. -/
theorem rawRead_checkCoincidence_other (s : State) (x : Nat) (h1 : x ≠ ioStat) (h2 : x ≠ ioIf) :
    (checkCoincidence s).rawRead x = s.rawRead x := by
  unfold checkCoincidence
  split
  · dsimp only
    split
    · rw [rawRead_requestInterrupt_other _ _ _ h2, rawRead_rawWrite_other _ _ _ _ h1]
    · rw [rawRead_rawWrite_other _ _ _ _ h1]
  · rw [rawRead_rawWrite_other _ _ _ _ h1]

theorem memoryWf_checkCoincidence (s : State) (h : s.memoryWf = true) : (checkCoincidence s).memoryWf = true := by
  unfold checkCoincidence
  split
  · dsimp only
    split
    · exact memoryWf_requestInterrupt _ _ (memoryWf_rawWrite _ _ _ (by decide) h)
    · exact memoryWf_rawWrite _ _ _ (by decide) h
  · exact memoryWf_rawWrite _ _ _ (by decide) h

/-! ### The OAM DMA -/

theorem dmaCopy_eq (src : Word) (k : Nat) (s : State) : dmaCopy src k s = { s with raw := (dmaCopy src k s).raw } := by
  induction k with
  | zero => rfl
  | succ k ih =>
    simp only [dmaCopy]
    rw [ih]
    rfl

@[simp] theorem dmaCopy_params (src : Word) (k : Nat) (s : State) : (dmaCopy src k s).params = s.params := by rw [dmaCopy_eq]
@[simp] theorem dmaCopy_a (src : Word) (k : Nat) (s : State) : (dmaCopy src k s).a = s.a := by rw [dmaCopy_eq]
@[simp] theorem dmaCopy_f (src : Word) (k : Nat) (s : State) : (dmaCopy src k s).f = s.f := by rw [dmaCopy_eq]
@[simp] theorem dmaCopy_b (src : Word) (k : Nat) (s : State) : (dmaCopy src k s).b = s.b := by rw [dmaCopy_eq]
@[simp] theorem dmaCopy_c (src : Word) (k : Nat) (s : State) : (dmaCopy src k s).c = s.c := by rw [dmaCopy_eq]
@[simp] theorem dmaCopy_d (src : Word) (k : Nat) (s : State) : (dmaCopy src k s).d = s.d := by rw [dmaCopy_eq]
@[simp] theorem dmaCopy_e (src : Word) (k : Nat) (s : State) : (dmaCopy src k s).e = s.e := by rw [dmaCopy_eq]
@[simp] theorem dmaCopy_h (src : Word) (k : Nat) (s : State) : (dmaCopy src k s).h = s.h := by rw [dmaCopy_eq]
@[simp] theorem dmaCopy_l (src : Word) (k : Nat) (s : State) : (dmaCopy src k s).l = s.l := by rw [dmaCopy_eq]
@[simp] theorem dmaCopy_sp (src : Word) (k : Nat) (s : State) : (dmaCopy src k s).sp = s.sp := by rw [dmaCopy_eq]
@[simp] theorem dmaCopy_pc (src : Word) (k : Nat) (s : State) : (dmaCopy src k s).pc = s.pc := by rw [dmaCopy_eq]
@[simp] theorem dmaCopy_ime (src : Word) (k : Nat) (s : State) : (dmaCopy src k s).ime = s.ime := by rw [dmaCopy_eq]
@[simp] theorem dmaCopy_imePend (src : Word) (k : Nat) (s : State) : (dmaCopy src k s).imePend = s.imePend := by rw [dmaCopy_eq]
@[simp] theorem dmaCopy_imePendFresh (src : Word) (k : Nat) (s : State) : (dmaCopy src k s).imePendFresh = s.imePendFresh := by rw [dmaCopy_eq]
@[simp] theorem dmaCopy_halted (src : Word) (k : Nat) (s : State) : (dmaCopy src k s).halted = s.halted := by rw [dmaCopy_eq]
@[simp] theorem dmaCopy_stopped (src : Word) (k : Nat) (s : State) : (dmaCopy src k s).stopped = s.stopped := by rw [dmaCopy_eq]
@[simp] theorem dmaCopy_savedP1 (src : Word) (k : Nat) (s : State) : (dmaCopy src k s).savedP1 = s.savedP1 := by rw [dmaCopy_eq]
@[simp] theorem dmaCopy_savedLcdc (src : Word) (k : Nat) (s : State) : (dmaCopy src k s).savedLcdc = s.savedLcdc := by rw [dmaCopy_eq]
@[simp] theorem dmaCopy_savedTac (src : Word) (k : Nat) (s : State) : (dmaCopy src k s).savedTac = s.savedTac := by rw [dmaCopy_eq]
@[simp] theorem dmaCopy_fault (src : Word) (k : Nat) (s : State) : (dmaCopy src k s).fault = s.fault := by rw [dmaCopy_eq]
@[simp] theorem dmaCopy_romImage (src : Word) (k : Nat) (s : State) : (dmaCopy src k s).romImage = s.romImage := by rw [dmaCopy_eq]
@[simp] theorem dmaCopy_romLen (src : Word) (k : Nat) (s : State) : (dmaCopy src k s).romLen = s.romLen := by rw [dmaCopy_eq]
@[simp] theorem dmaCopy_ramBanks (src : Word) (k : Nat) (s : State) : (dmaCopy src k s).ramBanks = s.ramBanks := by rw [dmaCopy_eq]
@[simp] theorem dmaCopy_family (src : Word) (k : Nat) (s : State) : (dmaCopy src k s).family = s.family := by rw [dmaCopy_eq]
@[simp] theorem dmaCopy_hasBattery (src : Word) (k : Nat) (s : State) : (dmaCopy src k s).hasBattery = s.hasBattery := by rw [dmaCopy_eq]
@[simp] theorem dmaCopy_romBankCount (src : Word) (k : Nat) (s : State) : (dmaCopy src k s).romBankCount = s.romBankCount := by rw [dmaCopy_eq]
@[simp] theorem dmaCopy_romBank (src : Word) (k : Nat) (s : State) : (dmaCopy src k s).romBank = s.romBank := by rw [dmaCopy_eq]
@[simp] theorem dmaCopy_ramBank (src : Word) (k : Nat) (s : State) : (dmaCopy src k s).ramBank = s.ramBank := by rw [dmaCopy_eq]
@[simp] theorem dmaCopy_ramEnabled (src : Word) (k : Nat) (s : State) : (dmaCopy src k s).ramEnabled = s.ramEnabled := by rw [dmaCopy_eq]
@[simp] theorem dmaCopy_romBankingMode (src : Word) (k : Nat) (s : State) : (dmaCopy src k s).romBankingMode = s.romBankingMode := by rw [dmaCopy_eq]
@[simp] theorem dmaCopy_divAcc (src : Word) (k : Nat) (s : State) : (dmaCopy src k s).divAcc = s.divAcc := by rw [dmaCopy_eq]
@[simp] theorem dmaCopy_timaAcc (src : Word) (k : Nat) (s : State) : (dmaCopy src k s).timaAcc = s.timaAcc := by rw [dmaCopy_eq]
@[simp] theorem dmaCopy_lineAcc (src : Word) (k : Nat) (s : State) : (dmaCopy src k s).lineAcc = s.lineAcc := by rw [dmaCopy_eq]
@[simp] theorem dmaCopy_oamLatch (src : Word) (k : Nat) (s : State) : (dmaCopy src k s).oamLatch = s.oamLatch := by rw [dmaCopy_eq]
@[simp] theorem dmaCopy_hblankLatch (src : Word) (k : Nat) (s : State) : (dmaCopy src k s).hblankLatch = s.hblankLatch := by rw [dmaCopy_eq]
@[simp] theorem dmaCopy_vblankLatch (src : Word) (k : Nat) (s : State) : (dmaCopy src k s).vblankLatch = s.vblankLatch := by rw [dmaCopy_eq]
@[simp] theorem dmaCopy_fb (src : Word) (k : Nat) (s : State) : (dmaCopy src k s).fb = s.fb := by rw [dmaCopy_eq]
@[simp] theorem dmaCopy_pressed (src : Word) (k : Nat) (s : State) : (dmaCopy src k s).pressed = s.pressed := by rw [dmaCopy_eq]
@[simp] theorem dmaCopy_buttonSchedule (src : Word) (k : Nat) (s : State) : (dmaCopy src k s).buttonSchedule = s.buttonSchedule := by rw [dmaCopy_eq]
@[simp] theorem dmaCopy_presented (src : Word) (k : Nat) (s : State) : (dmaCopy src k s).presented = s.presented := by rw [dmaCopy_eq]
@[simp] theorem dmaCopy_cycles (src : Word) (k : Nat) (s : State) : (dmaCopy src k s).cycles = s.cycles := by rw [dmaCopy_eq]

/-- The DMA writes the `k` bytes from 0xFE00 on, and nothing else. -/
theorem rawRead_dmaCopy_other (src : Word) (k : Nat) (s : State) (x : Nat) (h : x < 0xFE00 ∨ 0xFE00 + k ≤ x) :
    (dmaCopy src k s).rawRead x = s.rawRead x := by
  induction k with
  | zero => rfl
  | succ k ih =>
    simp only [dmaCopy]
    rw [rawRead_rawWrite_other _ _ _ _ (by omega), ih (by omega)]

theorem memoryWf_dmaCopy (src : Word) (k : Nat) (s : State) (hk : k ≤ 0xA0) (h : s.memoryWf = true) :
    (dmaCopy src k s).memoryWf = true := by
  induction k with
  | zero => exact h
  | succ k ih => exact memoryWf_rawWrite _ _ _ (by omega) (ih (by omega))

/-! ### Register writes -/

theorem registerWrite_eq (n : Nat) (v : Byte) (s : State) :
    registerWrite n v s = { s with raw := (registerWrite n v s).raw } := by
  unfold registerWrite
  split
  · rfl
  split
  · rfl
  split
  · split <;> rfl
  split
  · rw [checkCoincidence_eq]; rfl
  split
  · generalize hd : dmaCopy _ _ _ = t
    have h : t = { s.rawWrite ioDma v with raw := t.raw } := hd ▸ dmaCopy_eq _ _ _
    rw [h]
    rfl
  split <;> rfl

@[simp] theorem registerWrite_params (n : Nat) (v : Byte) (s : State) : (registerWrite n v s).params = s.params := by rw [registerWrite_eq]
@[simp] theorem registerWrite_a (n : Nat) (v : Byte) (s : State) : (registerWrite n v s).a = s.a := by rw [registerWrite_eq]
@[simp] theorem registerWrite_f (n : Nat) (v : Byte) (s : State) : (registerWrite n v s).f = s.f := by rw [registerWrite_eq]
@[simp] theorem registerWrite_b (n : Nat) (v : Byte) (s : State) : (registerWrite n v s).b = s.b := by rw [registerWrite_eq]
@[simp] theorem registerWrite_c (n : Nat) (v : Byte) (s : State) : (registerWrite n v s).c = s.c := by rw [registerWrite_eq]
@[simp] theorem registerWrite_d (n : Nat) (v : Byte) (s : State) : (registerWrite n v s).d = s.d := by rw [registerWrite_eq]
@[simp] theorem registerWrite_e (n : Nat) (v : Byte) (s : State) : (registerWrite n v s).e = s.e := by rw [registerWrite_eq]
@[simp] theorem registerWrite_h (n : Nat) (v : Byte) (s : State) : (registerWrite n v s).h = s.h := by rw [registerWrite_eq]
@[simp] theorem registerWrite_l (n : Nat) (v : Byte) (s : State) : (registerWrite n v s).l = s.l := by rw [registerWrite_eq]
@[simp] theorem registerWrite_sp (n : Nat) (v : Byte) (s : State) : (registerWrite n v s).sp = s.sp := by rw [registerWrite_eq]
@[simp] theorem registerWrite_pc (n : Nat) (v : Byte) (s : State) : (registerWrite n v s).pc = s.pc := by rw [registerWrite_eq]
@[simp] theorem registerWrite_ime (n : Nat) (v : Byte) (s : State) : (registerWrite n v s).ime = s.ime := by rw [registerWrite_eq]
@[simp] theorem registerWrite_imePend (n : Nat) (v : Byte) (s : State) : (registerWrite n v s).imePend = s.imePend := by rw [registerWrite_eq]
@[simp] theorem registerWrite_imePendFresh (n : Nat) (v : Byte) (s : State) : (registerWrite n v s).imePendFresh = s.imePendFresh := by rw [registerWrite_eq]
@[simp] theorem registerWrite_halted (n : Nat) (v : Byte) (s : State) : (registerWrite n v s).halted = s.halted := by rw [registerWrite_eq]
@[simp] theorem registerWrite_stopped (n : Nat) (v : Byte) (s : State) : (registerWrite n v s).stopped = s.stopped := by rw [registerWrite_eq]
@[simp] theorem registerWrite_savedP1 (n : Nat) (v : Byte) (s : State) : (registerWrite n v s).savedP1 = s.savedP1 := by rw [registerWrite_eq]
@[simp] theorem registerWrite_savedLcdc (n : Nat) (v : Byte) (s : State) : (registerWrite n v s).savedLcdc = s.savedLcdc := by rw [registerWrite_eq]
@[simp] theorem registerWrite_savedTac (n : Nat) (v : Byte) (s : State) : (registerWrite n v s).savedTac = s.savedTac := by rw [registerWrite_eq]
@[simp] theorem registerWrite_fault (n : Nat) (v : Byte) (s : State) : (registerWrite n v s).fault = s.fault := by rw [registerWrite_eq]
@[simp] theorem registerWrite_romImage (n : Nat) (v : Byte) (s : State) : (registerWrite n v s).romImage = s.romImage := by rw [registerWrite_eq]
@[simp] theorem registerWrite_romLen (n : Nat) (v : Byte) (s : State) : (registerWrite n v s).romLen = s.romLen := by rw [registerWrite_eq]
@[simp] theorem registerWrite_ramBanks (n : Nat) (v : Byte) (s : State) : (registerWrite n v s).ramBanks = s.ramBanks := by rw [registerWrite_eq]
@[simp] theorem registerWrite_family (n : Nat) (v : Byte) (s : State) : (registerWrite n v s).family = s.family := by rw [registerWrite_eq]
@[simp] theorem registerWrite_hasBattery (n : Nat) (v : Byte) (s : State) : (registerWrite n v s).hasBattery = s.hasBattery := by rw [registerWrite_eq]
@[simp] theorem registerWrite_romBankCount (n : Nat) (v : Byte) (s : State) : (registerWrite n v s).romBankCount = s.romBankCount := by rw [registerWrite_eq]
@[simp] theorem registerWrite_romBank (n : Nat) (v : Byte) (s : State) : (registerWrite n v s).romBank = s.romBank := by rw [registerWrite_eq]
@[simp] theorem registerWrite_ramBank (n : Nat) (v : Byte) (s : State) : (registerWrite n v s).ramBank = s.ramBank := by rw [registerWrite_eq]
@[simp] theorem registerWrite_ramEnabled (n : Nat) (v : Byte) (s : State) : (registerWrite n v s).ramEnabled = s.ramEnabled := by rw [registerWrite_eq]
@[simp] theorem registerWrite_romBankingMode (n : Nat) (v : Byte) (s : State) : (registerWrite n v s).romBankingMode = s.romBankingMode := by rw [registerWrite_eq]
@[simp] theorem registerWrite_divAcc (n : Nat) (v : Byte) (s : State) : (registerWrite n v s).divAcc = s.divAcc := by rw [registerWrite_eq]
@[simp] theorem registerWrite_timaAcc (n : Nat) (v : Byte) (s : State) : (registerWrite n v s).timaAcc = s.timaAcc := by rw [registerWrite_eq]
@[simp] theorem registerWrite_lineAcc (n : Nat) (v : Byte) (s : State) : (registerWrite n v s).lineAcc = s.lineAcc := by rw [registerWrite_eq]
@[simp] theorem registerWrite_oamLatch (n : Nat) (v : Byte) (s : State) : (registerWrite n v s).oamLatch = s.oamLatch := by rw [registerWrite_eq]
@[simp] theorem registerWrite_hblankLatch (n : Nat) (v : Byte) (s : State) : (registerWrite n v s).hblankLatch = s.hblankLatch := by rw [registerWrite_eq]
@[simp] theorem registerWrite_vblankLatch (n : Nat) (v : Byte) (s : State) : (registerWrite n v s).vblankLatch = s.vblankLatch := by rw [registerWrite_eq]
@[simp] theorem registerWrite_fb (n : Nat) (v : Byte) (s : State) : (registerWrite n v s).fb = s.fb := by rw [registerWrite_eq]
@[simp] theorem registerWrite_pressed (n : Nat) (v : Byte) (s : State) : (registerWrite n v s).pressed = s.pressed := by rw [registerWrite_eq]
@[simp] theorem registerWrite_buttonSchedule (n : Nat) (v : Byte) (s : State) : (registerWrite n v s).buttonSchedule = s.buttonSchedule := by rw [registerWrite_eq]
@[simp] theorem registerWrite_presented (n : Nat) (v : Byte) (s : State) : (registerWrite n v s).presented = s.presented := by rw [registerWrite_eq]
@[simp] theorem registerWrite_cycles (n : Nat) (v : Byte) (s : State) : (registerWrite n v s).cycles = s.cycles := by rw [registerWrite_eq]

theorem memoryWf_registerWrite (n : Nat) (v : Byte) (s : State) (hn : n < 0x10000) (h : s.memoryWf = true) :
    (registerWrite n v s).memoryWf = true := by
  unfold registerWrite
  split
  · exact memoryWf_rawWrite _ _ _ (by decide) h
  split
  · exact memoryWf_rawWrite _ _ _ (by decide) h
  split
  · split
    · exact memoryWf_rawWrite _ _ _ (by decide) h
    · exact h
  split
  · exact memoryWf_checkCoincidence _ (memoryWf_rawWrite _ _ _ (by decide) h)
  split
  · exact memoryWf_dmaCopy _ _ _ (by decide) (memoryWf_rawWrite _ _ _ (by decide) h)
  split
  · exact h
  · exact memoryWf_rawWrite _ _ _ hn h

/-- A register write leaves LY as it is or stores 0 in it. -/
theorem rawRead_ly_registerWrite (n : Nat) (v : Byte) (s : State) (h : s.rawWf = true) :
    (registerWrite n v s).rawRead ioLy = s.rawRead ioLy ∨ (registerWrite n v s).rawRead ioLy = 0 := by
  unfold registerWrite
  split
  · exact .inl (rawRead_rawWrite_other _ _ _ _ (by decide))
  split
  · exact .inl (rawRead_rawWrite_other _ _ _ _ (by decide))
  split
  · split
    · exact .inr (rawRead_rawWrite_same _ _ _ h)
    · exact .inl rfl
  split
  · rw [rawRead_checkCoincidence_other _ _ (by decide) (by decide)]
    exact .inl (rawRead_rawWrite_other _ _ _ _ (by decide))
  split
  · rw [rawRead_dmaCopy_other _ _ _ _ (by decide)]
    exact .inl (rawRead_rawWrite_other _ _ _ _ (by decide))
  split
  · exact .inl rfl
  · rename_i hly _ _ _
    exact .inl (rawRead_rawWrite_other _ _ _ _ (Ne.symm hly))

/-! ### The bank-switch controller -/

theorem setRomBank_eq (k : BitVec 7) (s : State) : setRomBank k s = { s with romBank := (setRomBank k s).romBank } := rfl

theorem setRomBank_ne (k : BitVec 7) (s : State) : (setRomBank k s).romBank ≠ 0 := by
  rw [setRomBank_romBank]
  split
  · decide
  · assumption

theorem mbcWrite_eq (n : Nat) (v : Byte) (s : State) : mbcWrite n v s =
    { s with
      romBank := (mbcWrite n v s).romBank, ramBank := (mbcWrite n v s).ramBank, ramEnabled := (mbcWrite n v s).ramEnabled,
      romBankingMode := (mbcWrite n v s).romBankingMode } := by
  unfold mbcWrite mbc1Write mbc2Write mbc3Write ramEnableWrite setRomBank
  split
  · rfl
  all_goals (repeat' split) <;> rfl

@[simp] theorem mbcWrite_params (n : Nat) (v : Byte) (s : State) : (mbcWrite n v s).params = s.params := by rw [mbcWrite_eq]
@[simp] theorem mbcWrite_a (n : Nat) (v : Byte) (s : State) : (mbcWrite n v s).a = s.a := by rw [mbcWrite_eq]
@[simp] theorem mbcWrite_f (n : Nat) (v : Byte) (s : State) : (mbcWrite n v s).f = s.f := by rw [mbcWrite_eq]
@[simp] theorem mbcWrite_b (n : Nat) (v : Byte) (s : State) : (mbcWrite n v s).b = s.b := by rw [mbcWrite_eq]
@[simp] theorem mbcWrite_c (n : Nat) (v : Byte) (s : State) : (mbcWrite n v s).c = s.c := by rw [mbcWrite_eq]
@[simp] theorem mbcWrite_d (n : Nat) (v : Byte) (s : State) : (mbcWrite n v s).d = s.d := by rw [mbcWrite_eq]
@[simp] theorem mbcWrite_e (n : Nat) (v : Byte) (s : State) : (mbcWrite n v s).e = s.e := by rw [mbcWrite_eq]
@[simp] theorem mbcWrite_h (n : Nat) (v : Byte) (s : State) : (mbcWrite n v s).h = s.h := by rw [mbcWrite_eq]
@[simp] theorem mbcWrite_l (n : Nat) (v : Byte) (s : State) : (mbcWrite n v s).l = s.l := by rw [mbcWrite_eq]
@[simp] theorem mbcWrite_sp (n : Nat) (v : Byte) (s : State) : (mbcWrite n v s).sp = s.sp := by rw [mbcWrite_eq]
@[simp] theorem mbcWrite_pc (n : Nat) (v : Byte) (s : State) : (mbcWrite n v s).pc = s.pc := by rw [mbcWrite_eq]
@[simp] theorem mbcWrite_ime (n : Nat) (v : Byte) (s : State) : (mbcWrite n v s).ime = s.ime := by rw [mbcWrite_eq]
@[simp] theorem mbcWrite_imePend (n : Nat) (v : Byte) (s : State) : (mbcWrite n v s).imePend = s.imePend := by rw [mbcWrite_eq]
@[simp] theorem mbcWrite_imePendFresh (n : Nat) (v : Byte) (s : State) : (mbcWrite n v s).imePendFresh = s.imePendFresh := by rw [mbcWrite_eq]
@[simp] theorem mbcWrite_halted (n : Nat) (v : Byte) (s : State) : (mbcWrite n v s).halted = s.halted := by rw [mbcWrite_eq]
@[simp] theorem mbcWrite_stopped (n : Nat) (v : Byte) (s : State) : (mbcWrite n v s).stopped = s.stopped := by rw [mbcWrite_eq]
@[simp] theorem mbcWrite_savedP1 (n : Nat) (v : Byte) (s : State) : (mbcWrite n v s).savedP1 = s.savedP1 := by rw [mbcWrite_eq]
@[simp] theorem mbcWrite_savedLcdc (n : Nat) (v : Byte) (s : State) : (mbcWrite n v s).savedLcdc = s.savedLcdc := by rw [mbcWrite_eq]
@[simp] theorem mbcWrite_savedTac (n : Nat) (v : Byte) (s : State) : (mbcWrite n v s).savedTac = s.savedTac := by rw [mbcWrite_eq]
@[simp] theorem mbcWrite_fault (n : Nat) (v : Byte) (s : State) : (mbcWrite n v s).fault = s.fault := by rw [mbcWrite_eq]
@[simp] theorem mbcWrite_raw (n : Nat) (v : Byte) (s : State) : (mbcWrite n v s).raw = s.raw := by rw [mbcWrite_eq]
@[simp] theorem mbcWrite_romImage (n : Nat) (v : Byte) (s : State) : (mbcWrite n v s).romImage = s.romImage := by rw [mbcWrite_eq]
@[simp] theorem mbcWrite_romLen (n : Nat) (v : Byte) (s : State) : (mbcWrite n v s).romLen = s.romLen := by rw [mbcWrite_eq]
@[simp] theorem mbcWrite_ramBanks (n : Nat) (v : Byte) (s : State) : (mbcWrite n v s).ramBanks = s.ramBanks := by rw [mbcWrite_eq]
@[simp] theorem mbcWrite_family (n : Nat) (v : Byte) (s : State) : (mbcWrite n v s).family = s.family := by rw [mbcWrite_eq]
@[simp] theorem mbcWrite_hasBattery (n : Nat) (v : Byte) (s : State) : (mbcWrite n v s).hasBattery = s.hasBattery := by rw [mbcWrite_eq]
@[simp] theorem mbcWrite_romBankCount (n : Nat) (v : Byte) (s : State) : (mbcWrite n v s).romBankCount = s.romBankCount := by rw [mbcWrite_eq]
@[simp] theorem mbcWrite_divAcc (n : Nat) (v : Byte) (s : State) : (mbcWrite n v s).divAcc = s.divAcc := by rw [mbcWrite_eq]
@[simp] theorem mbcWrite_timaAcc (n : Nat) (v : Byte) (s : State) : (mbcWrite n v s).timaAcc = s.timaAcc := by rw [mbcWrite_eq]
@[simp] theorem mbcWrite_lineAcc (n : Nat) (v : Byte) (s : State) : (mbcWrite n v s).lineAcc = s.lineAcc := by rw [mbcWrite_eq]
@[simp] theorem mbcWrite_oamLatch (n : Nat) (v : Byte) (s : State) : (mbcWrite n v s).oamLatch = s.oamLatch := by rw [mbcWrite_eq]
@[simp] theorem mbcWrite_hblankLatch (n : Nat) (v : Byte) (s : State) : (mbcWrite n v s).hblankLatch = s.hblankLatch := by rw [mbcWrite_eq]
@[simp] theorem mbcWrite_vblankLatch (n : Nat) (v : Byte) (s : State) : (mbcWrite n v s).vblankLatch = s.vblankLatch := by rw [mbcWrite_eq]
@[simp] theorem mbcWrite_fb (n : Nat) (v : Byte) (s : State) : (mbcWrite n v s).fb = s.fb := by rw [mbcWrite_eq]
@[simp] theorem mbcWrite_pressed (n : Nat) (v : Byte) (s : State) : (mbcWrite n v s).pressed = s.pressed := by rw [mbcWrite_eq]
@[simp] theorem mbcWrite_buttonSchedule (n : Nat) (v : Byte) (s : State) : (mbcWrite n v s).buttonSchedule = s.buttonSchedule := by rw [mbcWrite_eq]
@[simp] theorem mbcWrite_presented (n : Nat) (v : Byte) (s : State) : (mbcWrite n v s).presented = s.presented := by rw [mbcWrite_eq]
@[simp] theorem mbcWrite_cycles (n : Nat) (v : Byte) (s : State) : (mbcWrite n v s).cycles = s.cycles := by rw [mbcWrite_eq]

/-- A command never selects ROM bank 0. -/
theorem romBank_mbcWrite (n : Nat) (v : Byte) (s : State) (h : s.romBank ≠ 0) : (mbcWrite n v s).romBank ≠ 0 := by
  unfold mbcWrite mbc1Write mbc2Write mbc3Write ramEnableWrite
  split
  · exact h
  all_goals (repeat' split) <;> first | exact h | exact setRomBank_ne _ _

theorem memoryWf_mbcWrite (n : Nat) (v : Byte) (s : State) : (mbcWrite n v s).memoryWf = s.memoryWf :=
  memoryWf_congr s _ (by simp) (by simp) (by simp) (by simp) (by simp)

/-! ### The write decoder -/

/-- A CPU write changes `Raw`, the RAM banks and the bank-switch controller, and nothing else. -/
theorem busWrite_eq (a : Word) (v : Byte) (s : State) : busWrite a v s =
    { s with
      raw := (busWrite a v s).raw, ramBanks := (busWrite a v s).ramBanks, romBank := (busWrite a v s).romBank,
      ramBank := (busWrite a v s).ramBank, ramEnabled := (busWrite a v s).ramEnabled,
      romBankingMode := (busWrite a v s).romBankingMode } := by
  unfold busWrite
  dsimp only
  split
  · rw [mbcWrite_eq]
  · rw [mbcWrite_eq]
  · rfl
  · split <;> rfl
  · rfl
  · rfl
  · rfl
  · rfl
  · rfl
  · rw [registerWrite_eq]
  · rw [registerWrite_eq]

@[simp] theorem busWrite_params (a : Word) (v : Byte) (s : State) : (busWrite a v s).params = s.params := by rw [busWrite_eq]
@[simp] theorem busWrite_a (a : Word) (v : Byte) (s : State) : (busWrite a v s).a = s.a := by rw [busWrite_eq]
@[simp] theorem busWrite_f (a : Word) (v : Byte) (s : State) : (busWrite a v s).f = s.f := by rw [busWrite_eq]
@[simp] theorem busWrite_b (a : Word) (v : Byte) (s : State) : (busWrite a v s).b = s.b := by rw [busWrite_eq]
@[simp] theorem busWrite_c (a : Word) (v : Byte) (s : State) : (busWrite a v s).c = s.c := by rw [busWrite_eq]
@[simp] theorem busWrite_d (a : Word) (v : Byte) (s : State) : (busWrite a v s).d = s.d := by rw [busWrite_eq]
@[simp] theorem busWrite_e (a : Word) (v : Byte) (s : State) : (busWrite a v s).e = s.e := by rw [busWrite_eq]
@[simp] theorem busWrite_h (a : Word) (v : Byte) (s : State) : (busWrite a v s).h = s.h := by rw [busWrite_eq]
@[simp] theorem busWrite_l (a : Word) (v : Byte) (s : State) : (busWrite a v s).l = s.l := by rw [busWrite_eq]
@[simp] theorem busWrite_sp (a : Word) (v : Byte) (s : State) : (busWrite a v s).sp = s.sp := by rw [busWrite_eq]
@[simp] theorem busWrite_pc (a : Word) (v : Byte) (s : State) : (busWrite a v s).pc = s.pc := by rw [busWrite_eq]
@[simp] theorem busWrite_ime (a : Word) (v : Byte) (s : State) : (busWrite a v s).ime = s.ime := by rw [busWrite_eq]
@[simp] theorem busWrite_imePend (a : Word) (v : Byte) (s : State) : (busWrite a v s).imePend = s.imePend := by rw [busWrite_eq]
@[simp] theorem busWrite_imePendFresh (a : Word) (v : Byte) (s : State) : (busWrite a v s).imePendFresh = s.imePendFresh := by rw [busWrite_eq]
@[simp] theorem busWrite_halted (a : Word) (v : Byte) (s : State) : (busWrite a v s).halted = s.halted := by rw [busWrite_eq]
@[simp] theorem busWrite_stopped (a : Word) (v : Byte) (s : State) : (busWrite a v s).stopped = s.stopped := by rw [busWrite_eq]
@[simp] theorem busWrite_savedP1 (a : Word) (v : Byte) (s : State) : (busWrite a v s).savedP1 = s.savedP1 := by rw [busWrite_eq]
@[simp] theorem busWrite_savedLcdc (a : Word) (v : Byte) (s : State) : (busWrite a v s).savedLcdc = s.savedLcdc := by rw [busWrite_eq]
@[simp] theorem busWrite_savedTac (a : Word) (v : Byte) (s : State) : (busWrite a v s).savedTac = s.savedTac := by rw [busWrite_eq]
@[simp] theorem busWrite_fault (a : Word) (v : Byte) (s : State) : (busWrite a v s).fault = s.fault := by rw [busWrite_eq]
@[simp] theorem busWrite_romImage (a : Word) (v : Byte) (s : State) : (busWrite a v s).romImage = s.romImage := by rw [busWrite_eq]
@[simp] theorem busWrite_romLen (a : Word) (v : Byte) (s : State) : (busWrite a v s).romLen = s.romLen := by rw [busWrite_eq]
@[simp] theorem busWrite_family (a : Word) (v : Byte) (s : State) : (busWrite a v s).family = s.family := by rw [busWrite_eq]
@[simp] theorem busWrite_hasBattery (a : Word) (v : Byte) (s : State) : (busWrite a v s).hasBattery = s.hasBattery := by rw [busWrite_eq]
@[simp] theorem busWrite_romBankCount (a : Word) (v : Byte) (s : State) : (busWrite a v s).romBankCount = s.romBankCount := by rw [busWrite_eq]
@[simp] theorem busWrite_divAcc (a : Word) (v : Byte) (s : State) : (busWrite a v s).divAcc = s.divAcc := by rw [busWrite_eq]
@[simp] theorem busWrite_timaAcc (a : Word) (v : Byte) (s : State) : (busWrite a v s).timaAcc = s.timaAcc := by rw [busWrite_eq]
@[simp] theorem busWrite_lineAcc (a : Word) (v : Byte) (s : State) : (busWrite a v s).lineAcc = s.lineAcc := by rw [busWrite_eq]
@[simp] theorem busWrite_oamLatch (a : Word) (v : Byte) (s : State) : (busWrite a v s).oamLatch = s.oamLatch := by rw [busWrite_eq]
@[simp] theorem busWrite_hblankLatch (a : Word) (v : Byte) (s : State) : (busWrite a v s).hblankLatch = s.hblankLatch := by rw [busWrite_eq]
@[simp] theorem busWrite_vblankLatch (a : Word) (v : Byte) (s : State) : (busWrite a v s).vblankLatch = s.vblankLatch := by rw [busWrite_eq]
@[simp] theorem busWrite_fb (a : Word) (v : Byte) (s : State) : (busWrite a v s).fb = s.fb := by rw [busWrite_eq]
@[simp] theorem busWrite_pressed (a : Word) (v : Byte) (s : State) : (busWrite a v s).pressed = s.pressed := by rw [busWrite_eq]
@[simp] theorem busWrite_buttonSchedule (a : Word) (v : Byte) (s : State) : (busWrite a v s).buttonSchedule = s.buttonSchedule := by rw [busWrite_eq]
@[simp] theorem busWrite_presented (a : Word) (v : Byte) (s : State) : (busWrite a v s).presented = s.presented := by rw [busWrite_eq]
@[simp] theorem busWrite_cycles (a : Word) (v : Byte) (s : State) : (busWrite a v s).cycles = s.cycles := by rw [busWrite_eq]

/-- The regions with their places (R71): exactly one holds. -/
theorem regionOf_cases (p : Params) (n : Nat) :
    (n < 0x4000 ∧ regionOf p n = .romBank0) ∨ (0x4000 ≤ n ∧ n < 0x8000 ∧ regionOf p n = .romSwitchable) ∨
    (0x8000 ≤ n ∧ n < 0xA000 ∧ regionOf p n = .vram) ∨ (0xA000 ≤ n ∧ n < 0xC000 ∧ regionOf p n = .externalRam) ∨
    (0xC000 ≤ n ∧ n < 0xE000 ∧ regionOf p n = .workRam) ∨ (0xE000 ≤ n ∧ n < 0xFE00 ∧ regionOf p n = .echoRam) ∨
    (0xFE00 ≤ n ∧ n < 0xFEA0 ∧ regionOf p n = .oam) ∨ (0xFEA0 ≤ n ∧ n < 0xFF00 ∧ regionOf p n = .unusable) ∨
    (n = 0xFF00 ∧ regionOf p n = .joypad) ∨
    (0xFF00 < n ∧ n < 0xFF80 ∧ n ∈ p.cgbStubSet ∧ regionOf p n = .cgbStub) ∨
    (0xFF00 < n ∧ ¬ (n < 0xFF80 ∧ n ∈ p.cgbStubSet) ∧ regionOf p n = .plainIo) := by
  unfold regionOf
  repeat' split
  · exact .inl ⟨by assumption, rfl⟩
  · exact .inr (.inl ⟨by omega, by assumption, rfl⟩)
  · exact .inr (.inr (.inl ⟨by omega, by assumption, rfl⟩))
  · exact .inr (.inr (.inr (.inl ⟨by omega, by assumption, rfl⟩)))
  · exact .inr (.inr (.inr (.inr (.inl ⟨by omega, by assumption, rfl⟩))))
  · exact .inr (.inr (.inr (.inr (.inr (.inl ⟨by omega, by assumption, rfl⟩)))))
  · exact .inr (.inr (.inr (.inr (.inr (.inr (.inl ⟨by omega, by assumption, rfl⟩))))))
  · exact .inr (.inr (.inr (.inr (.inr (.inr (.inr (.inl ⟨by omega, by assumption, rfl⟩)))))))
  · exact .inr (.inr (.inr (.inr (.inr (.inr (.inr (.inr (.inl ⟨by assumption, rfl⟩))))))))
  · rename_i h
    exact .inr (.inr (.inr (.inr (.inr (.inr (.inr (.inr (.inr (.inl ⟨by unfold ioP1 at *; omega, h.1, h.2, rfl⟩)))))))))
  · exact .inr (.inr (.inr (.inr (.inr (.inr (.inr (.inr (.inr (.inr ⟨by unfold ioP1 at *; omega, by assumption, rfl⟩)))))))))

/-- What a read does in each region (R71). -/
def regionRead (r : Region) (n : Nat) (s : State) : Byte :=
  match r with
  | .romBank0 => s.rawRead n
  | .romSwitchable => s.romRead (s.romOffset n)
  | .vram => s.rawRead n
  | .externalRam => if s.ramEnabled then s.ramRead (s.ramOffset n) else 0xFF
  | .workRam => s.rawRead n
  | .echoRam => s.rawRead (n - 0x2000)
  | .oam => s.rawRead n
  | .unusable => 0xFF
  | .joypad => (s.rawRead ioP1 &&& 0xF0) ||| joypadNibble (s.rawRead ioP1) s.pressed
  | .cgbStub => 0xFF
  | .plainIo => s.rawRead n

/-- What a write does in each region (R72). -/
def regionWrite (r : Region) (n : Nat) (v : Byte) (s : State) : State :=
  match r with
  | .romBank0 => mbcWrite n v s
  | .romSwitchable => mbcWrite n v s
  | .vram => s.rawWrite n v
  | .externalRam => if s.ramEnabled then s.ramWrite (s.ramOffset n) v else s
  | .workRam => s.rawWrite n v
  | .echoRam => s.rawWrite (n - 0x2000) v
  | .oam => s.rawWrite n v
  | .unusable => s
  | .joypad => s.rawWrite ioP1 ((v &&& 0xF0) ||| (s.rawRead ioP1 &&& 0x0F))
  | .cgbStub => registerWrite n v s
  | .plainIo => registerWrite n v s

/-- A read at an address whose region is known. -/
theorem busRead_region {s : State} {a : Word} {r : Region} (h : regionOf s.params a.toNat = r) :
    busRead s a = regionRead r a.toNat s := by
  rw [← h]
  rfl

/-- A write at an address whose region is known. -/
theorem busWrite_region {s : State} {a : Word} {r : Region} (v : Byte) (h : regionOf s.params a.toNat = r) :
    busWrite a v s = regionWrite r a.toNat v s := by
  rw [← h]
  rfl

/-- A write of a register that is neither special nor a stub is a plain store (R106). -/
theorem registerWrite_plain (n : Nat) (v : Byte) (s : State) (h : n ∉ [ioDiv, ioStat, ioLy, ioLyc, ioDma])
    (hr : regionOf s.params n = .plainIo) : registerWrite n v s = s.rawWrite n v := by
  simp only [List.mem_cons, List.not_mem_nil, or_false, not_or] at h
  unfold registerWrite
  rw [if_neg h.1, if_neg h.2.1, if_neg h.2.2.1, if_neg h.2.2.2.1, if_neg h.2.2.2.2, hr, if_neg (by decide)]

/-- A write below 0x8000 is a command (R89). -/
theorem busWrite_command (a : Word) (v : Byte) (s : State) (h : a.toNat < 0x8000) :
    busWrite a v s = mbcWrite a.toNat v s := by
  rcases regionOf_cases s.params a.toNat with c | c | c | c | c | c | c | c | c | c | c
  all_goals first | (exfalso; omega) | exact busWrite_region v c.2 | exact busWrite_region v c.2.2

/-- The place of the external RAM (R71). -/
theorem regionOf_externalRam (p : Params) (n : Nat) (h : regionOf p n = .externalRam) : 0xA000 ≤ n ∧ n < 0xC000 := by
  unfold regionOf at h
  repeat' split at h
  all_goals first | (exact absurd h (by decide)) | (constructor <;> omega)

theorem memoryWf_ramWrite (s : State) (off : Nat) (v : Byte) (hoff : off < 0x8000) (h : s.memoryWf = true) :
    (s.ramWrite off v).memoryWf = true := by
  obtain ⟨h1, h2, h3, h4⟩ := (memoryWf_iff s).mp h
  exact (memoryWf_iff _).mpr ⟨h1, h2, Memory.wf_write _ _ _ _ _ hoff h3, h4⟩

/-- A CPU write keeps every storage canonical. -/
theorem memoryWf_busWrite (a : Word) (v : Byte) (s : State) (h : s.memoryWf = true) : (busWrite a v s).memoryWf = true := by
  have ha := a.isLt
  have hb := s.ramBank.isLt
  unfold busWrite
  dsimp only
  split
  · rw [memoryWf_mbcWrite]; exact h
  · rw [memoryWf_mbcWrite]; exact h
  · exact memoryWf_rawWrite _ _ _ (by omega) h
  · rename_i hr
    have := regionOf_externalRam _ _ hr
    split
    · exact memoryWf_ramWrite _ _ _ (by unfold State.ramOffset; omega) h
    · exact h
  · exact memoryWf_rawWrite _ _ _ (by omega) h
  · exact memoryWf_rawWrite _ _ _ (by omega) h
  · exact memoryWf_rawWrite _ _ _ (by omega) h
  · exact h
  · exact memoryWf_rawWrite _ _ _ (by decide) h
  · exact memoryWf_registerWrite _ _ _ (by omega) h
  · exact memoryWf_registerWrite _ _ _ (by omega) h

/-- A CPU write never selects ROM bank 0. -/
theorem romBank_busWrite (a : Word) (v : Byte) (s : State) (h : s.romBank ≠ 0) : (busWrite a v s).romBank ≠ 0 := by
  unfold busWrite
  dsimp only
  split
  · exact romBank_mbcWrite _ _ _ h
  · exact romBank_mbcWrite _ _ _ h
  · exact h
  · split <;> exact h
  · exact h
  · exact h
  · exact h
  · exact h
  · exact h
  · rw [registerWrite_romBank]; exact h
  · rw [registerWrite_romBank]; exact h

/-- Where a region lies, for the regions that are storage in `Raw` below the I/O registers. -/
theorem regionOf_below_io (p : Params) (n : Nat)
    (h : regionOf p n = .vram ∨ regionOf p n = .workRam ∨ regionOf p n = .echoRam ∨ regionOf p n = .oam) : n < 0xFEA0 := by
  unfold regionOf at h
  repeat' split at h
  all_goals first | omega | (exfalso; revert h; decide)

/-- A CPU write leaves LY as it is or stores 0 in it. -/
theorem rawRead_ly_busWrite (a : Word) (v : Byte) (s : State) (h : s.rawWf = true) :
    (busWrite a v s).rawRead ioLy = s.rawRead ioLy ∨ (busWrite a v s).rawRead ioLy = 0 := by
  unfold busWrite
  dsimp only
  split
  · exact .inl (rawRead_congr _ _ (by simp) _)
  · exact .inl (rawRead_congr _ _ (by simp) _)
  · rename_i hr
    have := regionOf_below_io _ _ (.inl hr)
    exact .inl (rawRead_rawWrite_other _ _ _ _ (by unfold ioLy; omega))
  · split <;> exact .inl rfl
  · rename_i hr
    have := regionOf_below_io _ _ (.inr (.inl hr))
    exact .inl (rawRead_rawWrite_other _ _ _ _ (by unfold ioLy; omega))
  · rename_i hr
    have := regionOf_below_io _ _ (.inr (.inr (.inl hr)))
    exact .inl (rawRead_rawWrite_other _ _ _ _ (by unfold ioLy; omega))
  · rename_i hr
    have := regionOf_below_io _ _ (.inr (.inr (.inr hr)))
    exact .inl (rawRead_rawWrite_other _ _ _ _ (by unfold ioLy; omega))
  · exact .inl rfl
  · exact .inl (rawRead_rawWrite_other _ _ _ _ (by decide))
  · exact rawRead_ly_registerWrite _ _ _ h
  · exact rawRead_ly_registerWrite _ _ _ h

/-! ### The stack -/

theorem push16_eq (v : Word) (s : State) : push16 v s =
    { s with
      sp := (push16 v s).sp, raw := (push16 v s).raw, ramBanks := (push16 v s).ramBanks, romBank := (push16 v s).romBank,
      ramBank := (push16 v s).ramBank, ramEnabled := (push16 v s).ramEnabled,
      romBankingMode := (push16 v s).romBankingMode } := by
  unfold push16
  dsimp only
  rw [busWrite_eq, busWrite_eq (s.sp - 1)]

@[simp] theorem push16_params (v : Word) (s : State) : (push16 v s).params = s.params := by rw [push16_eq]
@[simp] theorem push16_a (v : Word) (s : State) : (push16 v s).a = s.a := by rw [push16_eq]
@[simp] theorem push16_f (v : Word) (s : State) : (push16 v s).f = s.f := by rw [push16_eq]
@[simp] theorem push16_b (v : Word) (s : State) : (push16 v s).b = s.b := by rw [push16_eq]
@[simp] theorem push16_c (v : Word) (s : State) : (push16 v s).c = s.c := by rw [push16_eq]
@[simp] theorem push16_d (v : Word) (s : State) : (push16 v s).d = s.d := by rw [push16_eq]
@[simp] theorem push16_e (v : Word) (s : State) : (push16 v s).e = s.e := by rw [push16_eq]
@[simp] theorem push16_h (v : Word) (s : State) : (push16 v s).h = s.h := by rw [push16_eq]
@[simp] theorem push16_l (v : Word) (s : State) : (push16 v s).l = s.l := by rw [push16_eq]
@[simp] theorem push16_pc (v : Word) (s : State) : (push16 v s).pc = s.pc := by rw [push16_eq]
@[simp] theorem push16_ime (v : Word) (s : State) : (push16 v s).ime = s.ime := by rw [push16_eq]
@[simp] theorem push16_imePend (v : Word) (s : State) : (push16 v s).imePend = s.imePend := by rw [push16_eq]
@[simp] theorem push16_imePendFresh (v : Word) (s : State) : (push16 v s).imePendFresh = s.imePendFresh := by rw [push16_eq]
@[simp] theorem push16_halted (v : Word) (s : State) : (push16 v s).halted = s.halted := by rw [push16_eq]
@[simp] theorem push16_stopped (v : Word) (s : State) : (push16 v s).stopped = s.stopped := by rw [push16_eq]
@[simp] theorem push16_savedP1 (v : Word) (s : State) : (push16 v s).savedP1 = s.savedP1 := by rw [push16_eq]
@[simp] theorem push16_savedLcdc (v : Word) (s : State) : (push16 v s).savedLcdc = s.savedLcdc := by rw [push16_eq]
@[simp] theorem push16_savedTac (v : Word) (s : State) : (push16 v s).savedTac = s.savedTac := by rw [push16_eq]
@[simp] theorem push16_fault (v : Word) (s : State) : (push16 v s).fault = s.fault := by rw [push16_eq]
@[simp] theorem push16_romImage (v : Word) (s : State) : (push16 v s).romImage = s.romImage := by rw [push16_eq]
@[simp] theorem push16_romLen (v : Word) (s : State) : (push16 v s).romLen = s.romLen := by rw [push16_eq]
@[simp] theorem push16_family (v : Word) (s : State) : (push16 v s).family = s.family := by rw [push16_eq]
@[simp] theorem push16_hasBattery (v : Word) (s : State) : (push16 v s).hasBattery = s.hasBattery := by rw [push16_eq]
@[simp] theorem push16_romBankCount (v : Word) (s : State) : (push16 v s).romBankCount = s.romBankCount := by rw [push16_eq]
@[simp] theorem push16_divAcc (v : Word) (s : State) : (push16 v s).divAcc = s.divAcc := by rw [push16_eq]
@[simp] theorem push16_timaAcc (v : Word) (s : State) : (push16 v s).timaAcc = s.timaAcc := by rw [push16_eq]
@[simp] theorem push16_lineAcc (v : Word) (s : State) : (push16 v s).lineAcc = s.lineAcc := by rw [push16_eq]
@[simp] theorem push16_oamLatch (v : Word) (s : State) : (push16 v s).oamLatch = s.oamLatch := by rw [push16_eq]
@[simp] theorem push16_hblankLatch (v : Word) (s : State) : (push16 v s).hblankLatch = s.hblankLatch := by rw [push16_eq]
@[simp] theorem push16_vblankLatch (v : Word) (s : State) : (push16 v s).vblankLatch = s.vblankLatch := by rw [push16_eq]
@[simp] theorem push16_fb (v : Word) (s : State) : (push16 v s).fb = s.fb := by rw [push16_eq]
@[simp] theorem push16_pressed (v : Word) (s : State) : (push16 v s).pressed = s.pressed := by rw [push16_eq]
@[simp] theorem push16_buttonSchedule (v : Word) (s : State) : (push16 v s).buttonSchedule = s.buttonSchedule := by rw [push16_eq]
@[simp] theorem push16_presented (v : Word) (s : State) : (push16 v s).presented = s.presented := by rw [push16_eq]
@[simp] theorem push16_cycles (v : Word) (s : State) : (push16 v s).cycles = s.cycles := by rw [push16_eq]

/-- A push moves SP down by two. -/
@[simp] theorem push16_sp (v : Word) (s : State) : (push16 v s).sp = s.sp - 2 := by
  unfold push16
  simp only [busWrite_sp]
  bv_omega

theorem memoryWf_push16 (v : Word) (s : State) (h : s.memoryWf = true) : (push16 v s).memoryWf = true := by
  unfold push16
  exact memoryWf_busWrite _ _ _ (memoryWf_busWrite _ _ _ h)

theorem romBank_push16 (v : Word) (s : State) (h : s.romBank ≠ 0) : (push16 v s).romBank ≠ 0 := by
  unfold push16
  exact romBank_busWrite _ _ _ (romBank_busWrite _ _ _ h)

end Sys2Proof.Machine
end

