-- ==== Sys2Proof/Laws/Flags.lean ====
section
/-! SUPPORT. The flag byte: what `packFlags` puts where, and that its low nibble is 0. -/

namespace Sys2Proof.Machine

open Sys2Proof

theorem packFlags_bit7 (z n h c : Bool) : (packFlags z n h c).getLsbD 7 = z := by
  revert z n h c; decide

@[simp] theorem packFlags_getElem7 (z n h c : Bool) : (packFlags z n h c)[7] = z := packFlags_bit7 z n h c

theorem packFlags_bit6 (z n h c : Bool) : (packFlags z n h c).getLsbD 6 = n := by
  revert z n h c; decide

@[simp] theorem packFlags_getElem6 (z n h c : Bool) : (packFlags z n h c)[6] = n := packFlags_bit6 z n h c

theorem packFlags_bit5 (z n h c : Bool) : (packFlags z n h c).getLsbD 5 = h := by
  revert z n h c; decide

@[simp] theorem packFlags_getElem5 (z n h c : Bool) : (packFlags z n h c)[5] = h := packFlags_bit5 z n h c

theorem packFlags_bit4 (z n h c : Bool) : (packFlags z n h c).getLsbD 4 = c := by
  revert z n h c; decide

@[simp] theorem packFlags_getElem4 (z n h c : Bool) : (packFlags z n h c)[4] = c := packFlags_bit4 z n h c

/-- F[3:0] is 0 (R31). -/
@[simp] theorem packFlags_low (z n h c : Bool) : packFlags z n h c &&& 15#8 = 0#8 := by
  revert z n h c; decide

/-- A byte masked with 0xF0 has a low nibble of 0 (R225). -/
theorem mask_low (v : Byte) : v &&& 0xF0 &&& 0x0F = 0 := by
  rw [BitVec.and_assoc]
  simp

/-- `packFlags` makes the flag byte that holds the given flags. -/
theorem flagsAre_packFlags {z n h c : Bool} {pz pn ph pc : Prop} (hz : z = true ↔ pz) (hn : n = true ↔ pn)
    (hh : h = true ↔ ph) (hc : c = true ↔ pc) : FlagsAre (packFlags z n h c) pz pn ph pc where
  zero := by rw [packFlags_bit7]; exact hz
  subtract := by rw [packFlags_bit6]; exact hn
  halfCarry := by rw [packFlags_bit5]; exact hh
  carry := by rw [packFlags_bit4]; exact hc
  low := packFlags_low z n h c

theorem addBytes_low (a b : Byte) (cin : Bool) : (addBytes a b cin).flags &&& 0x0F = 0 := packFlags_low _ _ _ _

theorem subBytes_low (m : SubHalfCarry) (a b : Byte) (bin : Bool) : (subBytes m a b bin).flags &&& 0x0F = 0 :=
  packFlags_low _ _ _ _

/-- Every ALU operation leaves F[3:0] = 0. -/
theorem aluCompute_low (op : AluOp) (m : SubHalfCarry) (a b : Byte) (cin : Bool) :
    (aluCompute op m a b cin).flags &&& 0x0F = 0 := by
  cases op <;> exact packFlags_low _ _ _ _

theorem daaByte_low (a : Byte) (n h c : Bool) : (daaByte a n h c).flags &&& 0x0F = 0 := by
  unfold daaByte
  split <;> exact packFlags_low _ _ _ _

end Sys2Proof.Machine
end

