-- ==== Sys2Proof/Laws/Exec.lean ====
section
/-! SUPPORT. What every instruction does and keeps: `exec` answers a next state, and the next state is `Kept`: an instruction
leaves the launch data, the timer and video accumulators, the latches and the framebuffer alone, and keeps the invariants. -/

namespace Sys2Proof.Machine

open Sys2Proof

/-- What the CPU part of a step keeps. -/
structure Kept (s t : State) : Prop where
  params : t.params = s.params
  romImage : t.romImage = s.romImage
  romLen : t.romLen = s.romLen
  family : t.family = s.family
  hasBattery : t.hasBattery = s.hasBattery
  romBankCount : t.romBankCount = s.romBankCount
  divAcc : t.divAcc = s.divAcc
  timaAcc : t.timaAcc = s.timaAcc
  lineAcc : t.lineAcc = s.lineAcc
  oamLatch : t.oamLatch = s.oamLatch
  hblankLatch : t.hblankLatch = s.hblankLatch
  vblankLatch : t.vblankLatch = s.vblankLatch
  fb : t.fb = s.fb
  buttonSchedule : t.buttonSchedule = s.buttonSchedule
  presented : t.presented = s.presented
  halt : ¬ (s.halted = true ∧ s.stopped = true) → ¬ (t.halted = true ∧ t.stopped = true)
  flagsLow : s.f &&& 0x0F = 0 → t.f &&& 0x0F = 0
  romBank : s.romBank ≠ 0 → t.romBank ≠ 0
  memory : s.memoryWf = true → t.memoryWf = true
  ly : s.memoryWf = true → (s.rawRead ioLy).toNat ≤ 153 → (t.rawRead ioLy).toNat ≤ 153

theorem Kept.refl (s : State) : Kept s s :=
  ⟨rfl, rfl, rfl, rfl, rfl, rfl, rfl, rfl, rfl, rfl, rfl, rfl, rfl, rfl, rfl, id, id, id, id, fun _ => id⟩

theorem Kept.trans {s t u : State} (h : Kept s t) (k : Kept t u) : Kept s u where
  params := k.params.trans h.params
  romImage := k.romImage.trans h.romImage
  romLen := k.romLen.trans h.romLen
  family := k.family.trans h.family
  hasBattery := k.hasBattery.trans h.hasBattery
  romBankCount := k.romBankCount.trans h.romBankCount
  divAcc := k.divAcc.trans h.divAcc
  timaAcc := k.timaAcc.trans h.timaAcc
  lineAcc := k.lineAcc.trans h.lineAcc
  oamLatch := k.oamLatch.trans h.oamLatch
  hblankLatch := k.hblankLatch.trans h.hblankLatch
  vblankLatch := k.vblankLatch.trans h.vblankLatch
  fb := k.fb.trans h.fb
  buttonSchedule := k.buttonSchedule.trans h.buttonSchedule
  presented := k.presented.trans h.presented
  halt x := k.halt (h.halt x)
  flagsLow x := k.flagsLow (h.flagsLow x)
  romBank x := k.romBank (h.romBank x)
  memory x := k.memory (h.memory x)
  ly x y := k.ly (h.memory x) (h.ly x y)

/-- Replacing CPU registers keeps everything, if F[3:0] stays 0. -/
theorem Kept.cpu {s t : State} (ht : t =
    { s with
      a := t.a, f := t.f, b := t.b, c := t.c, d := t.d, e := t.e, h := t.h, l := t.l, sp := t.sp, pc := t.pc, ime := t.ime,
      imePend := t.imePend, imePendFresh := t.imePendFresh, halted := t.halted, stopped := t.stopped,
      savedP1 := t.savedP1, savedLcdc := t.savedLcdc, savedTac := t.savedTac, fault := t.fault, pressed := t.pressed,
      cycles := t.cycles })
    (hh : ¬ (s.halted = true ∧ s.stopped = true) → ¬ (t.halted = true ∧ t.stopped = true))
    (hf : s.f &&& 0x0F = 0 → t.f &&& 0x0F = 0) : Kept s t := by
  have hraw : t.raw = s.raw := by rw [ht]
  have hrom : t.romBank = s.romBank := by rw [ht]
  refine ⟨by rw [ht], by rw [ht], by rw [ht], by rw [ht], by rw [ht], by rw [ht], by rw [ht], by rw [ht], by rw [ht],
    by rw [ht], by rw [ht], by rw [ht], by rw [ht], by rw [ht], by rw [ht], hh, hf, by rw [hrom]; exact id, fun h => ?_, fun _ h => ?_⟩
  · rw [memoryWf_congr s t hraw (by rw [ht]) (by rw [ht]) (by rw [ht]) (by rw [ht])]
    exact h
  · rw [rawRead_congr s t hraw]
    exact h

/-- A change of `Raw` that keeps its form and LY's range keeps everything. -/
theorem Kept.raw {s t : State} (ht : t = { s with raw := t.raw }) (hm : s.memoryWf = true → t.memoryWf = true)
    (hly : s.memoryWf = true → (s.rawRead ioLy).toNat ≤ 153 → (t.rawRead ioLy).toNat ≤ 153) : Kept s t :=
  ⟨by rw [ht], by rw [ht], by rw [ht], by rw [ht], by rw [ht], by rw [ht], by rw [ht], by rw [ht], by rw [ht], by rw [ht],
    by rw [ht], by rw [ht], by rw [ht], by rw [ht], by rw [ht], fun h => by rw [ht]; exact h,
    fun h => by rw [ht]; exact h, fun h => by rw [ht]; exact h, hm, hly⟩

/-- A write to `Raw` outside LY keeps everything. -/
theorem Kept.rawWrite (s : State) (n : Nat) (v : Byte) (hn : n < 0x10000) (hly : ioLy ≠ n) : Kept s (s.rawWrite n v) :=
  Kept.raw rfl (memoryWf_rawWrite s n v hn) fun _ h => by rw [rawRead_rawWrite_other s n ioLy v hly]; exact h

/-- A CPU write keeps everything. -/
theorem Kept.busWrite (a : Word) (v : Byte) (s : State) : Kept s (busWrite a v s) where
  params := busWrite_params a v s
  romImage := busWrite_romImage a v s
  romLen := busWrite_romLen a v s
  family := busWrite_family a v s
  hasBattery := busWrite_hasBattery a v s
  romBankCount := busWrite_romBankCount a v s
  divAcc := busWrite_divAcc a v s
  timaAcc := busWrite_timaAcc a v s
  lineAcc := busWrite_lineAcc a v s
  oamLatch := busWrite_oamLatch a v s
  hblankLatch := busWrite_hblankLatch a v s
  vblankLatch := busWrite_vblankLatch a v s
  fb := busWrite_fb a v s
  buttonSchedule := busWrite_buttonSchedule a v s
  presented := busWrite_presented a v s
  halt h := by rw [busWrite_halted, busWrite_stopped]; exact h
  flagsLow h := by rw [busWrite_f]; exact h
  romBank := romBank_busWrite a v s
  memory := memoryWf_busWrite a v s
  ly h hly := by
    rcases rawRead_ly_busWrite a v s ((memoryWf_iff s).mp h).1 with hk | hk
    · rw [hk]; exact hly
    · rw [hk]; decide

/-- An answer that is a next state that keeps everything. -/
def Result.Keeps (s : State) (r : Result) : Prop := ∃ t, r = .next t ∧ Kept s t

/-- An instruction that only replaces CPU registers and then finishes. -/
theorem Keeps.cpu {s t : State} (n : Nat) (ht : t =
    { s with
      a := t.a, f := t.f, b := t.b, c := t.c, d := t.d, e := t.e, h := t.h, l := t.l, sp := t.sp, pc := t.pc, ime := t.ime,
      imePend := t.imePend, imePendFresh := t.imePendFresh, halted := t.halted, stopped := t.stopped,
      savedP1 := t.savedP1, savedLcdc := t.savedLcdc, savedTac := t.savedTac, fault := t.fault, pressed := t.pressed,
      cycles := t.cycles })
    (hh : ¬ (s.halted = true ∧ s.stopped = true) → ¬ (t.halted = true ∧ t.stopped = true))
    (hf : s.f &&& 0x0F = 0 → t.f &&& 0x0F = 0) : Result.Keeps s (finish n t) :=
  ⟨{ t with cycles := n }, rfl, (Kept.cpu ht hh hf).trans (Kept.cpu rfl id id)⟩

/-- An instruction that stores a byte and then finishes with other CPU registers. -/
theorem Keeps.store {s u : State} (n : Nat) (a : Word) (v : Byte) (s' : State) (hs : Kept s s')
    (hu : Kept (Machine.busWrite a v s') u) : Result.Keeps s (finish n u) :=
  ⟨{ u with cycles := n }, rfl, hs.trans ((Kept.busWrite a v s').trans (hu.trans (Kept.cpu rfl id id)))⟩

theorem Kept.fetched (s : State) (n : Nat) : Kept s (s.fetched n) := Kept.cpu rfl id id

theorem Kept.setReg (s : State) (r : Reg8) (v : Byte) : Kept s (s.setReg r v) := by
  cases r <;> exact Kept.cpu rfl id id

theorem Kept.setPair (s : State) (p : Pair) (v : Word) : Kept s (s.setPair p v) := by
  cases p <;> exact Kept.cpu rfl id id

theorem Kept.setStackPair (s : State) (p : StackPair) (v : Word) : Kept s (s.setStackPair p v) := by
  cases p
  · exact Kept.cpu rfl id id
  · exact Kept.cpu rfl id id
  · exact Kept.cpu rfl id id
  · exact Kept.cpu rfl id fun _ => mask_low _

theorem Kept.setF (s : State) (f : Byte) (hf : f &&& 0x0F = 0) : Kept s { s with f := f } := Kept.cpu rfl id fun _ => hf

theorem Kept.setStopped (s : State) (h : s.halted = false) : Kept s { s with stopped := true } :=
  Kept.cpu rfl (fun _ k => by rw [h] at k; cases k.1) id

theorem Kept.setSp (s : State) (q : Word) : Kept s { s with sp := q } := Kept.cpu rfl id id

theorem Kept.push16 (v : Word) (s : State) : Kept s (Machine.push16 v s) :=
  (Kept.setSp s _).trans ((Kept.busWrite _ _ _).trans ((Kept.setSp _ _).trans (Kept.busWrite _ _ _)))

theorem Kept.setOperand (s : State) (o : Operand8) (v : Byte) : Kept s (s.setOperand o v) := by
  cases o
  · exact Kept.setReg _ _ _
  · exact Kept.busWrite _ _ _

theorem Kept.callTo (t : Word) (s : State) : Kept s (Machine.callTo t s) :=
  (Kept.push16 s.pc s).trans (Kept.cpu rfl id id)

theorem Keeps.finish {s t : State} (n : Nat) (h : Kept s t) : Result.Keeps s (finish n t) :=
  ⟨{ t with cycles := n }, rfl, h.trans (Kept.cpu rfl id id)⟩

/-! ### The shared shapes -/

theorem kept_ldRegReg (dst r : Reg8) (s : State) : Result.Keeps s (ldRegReg dst r s) :=
  Keeps.finish _ ((Kept.fetched s 1).trans (Kept.setReg _ _ _))

theorem kept_ldRegMemHl (dst : Reg8) (s : State) : Result.Keeps s (ldRegMemHl dst s) :=
  Keeps.finish _ ((Kept.fetched s 1).trans (Kept.setReg _ _ _))

theorem kept_ldMemHlReg (r : Reg8) (s : State) : Result.Keeps s (ldMemHlReg r s) :=
  Keeps.finish _ ((Kept.fetched s 1).trans (Kept.busWrite _ _ _))

theorem kept_ldRegImm (dst : Reg8) (n : Byte) (s : State) : Result.Keeps s (ldRegImm dst n s) :=
  Keeps.finish _ ((Kept.fetched s 2).trans (Kept.setReg _ _ _))

theorem kept_ldAFromPair (p : Pair) (s : State) : Result.Keeps s (ldAFromPair p s) :=
  Keeps.finish _ (Kept.cpu rfl id id)

theorem kept_ldPairFromA (p : Pair) (s : State) : Result.Keeps s (ldPairFromA p s) :=
  Keeps.finish _ ((Kept.fetched s 1).trans (Kept.busWrite _ _ _))

theorem kept_ldPairImm (p : Pair) (v : Word) (s : State) : Result.Keeps s (ldPairImm p v s) :=
  Keeps.finish _ ((Kept.fetched s 3).trans (Kept.setPair _ _ _))

theorem kept_pushPair (p : StackPair) (s : State) : Result.Keeps s (pushPair p s) :=
  Keeps.finish _ ((Kept.fetched s 1).trans (Kept.push16 _ _))

theorem kept_popPair (p : StackPair) (s : State) : Result.Keeps s (popPair p s) := by
  refine Keeps.finish _ (((Kept.fetched s 1).trans ?_).trans (Kept.setStackPair _ _ _))
  exact Kept.cpu rfl id id

theorem kept_aluWith (op : AluOp) (src : AluSource) (s : State) : Result.Keeps s (aluWith op src s) :=
  Keeps.finish _ (Kept.cpu rfl id fun _ => aluCompute_low _ _ _ _ _)

theorem kept_incReg (r : Reg8) (s : State) : Result.Keeps s (incReg r s) :=
  Keeps.finish _ (((Kept.fetched s 1).trans (Kept.setReg _ _ _)).trans (Kept.setF _ _ (packFlags_low _ _ _ _)))

theorem kept_decReg (r : Reg8) (s : State) : Result.Keeps s (decReg r s) :=
  Keeps.finish _ (((Kept.fetched s 1).trans (Kept.setReg _ _ _)).trans (Kept.setF _ _ (packFlags_low _ _ _ _)))

theorem kept_rotateA (op : ShiftOp) (s : State) : Result.Keeps s (rotateA op s) :=
  Keeps.finish _ (Kept.cpu rfl id fun _ => packFlags_low _ _ _ _)

theorem kept_addHlPair (p : Pair) (s : State) : Result.Keeps s (addHlPair p s) :=
  Keeps.finish _ (Kept.cpu rfl id fun _ => packFlags_low _ _ _ _)

theorem kept_incPair (p : Pair) (s : State) : Result.Keeps s (incPair p s) :=
  Keeps.finish _ ((Kept.fetched s 1).trans (Kept.setPair _ _ _))

theorem kept_decPair (p : Pair) (s : State) : Result.Keeps s (decPair p s) :=
  Keeps.finish _ ((Kept.fetched s 1).trans (Kept.setPair _ _ _))

theorem kept_jpIf (cc : Cond) (a : Word) (s : State) : Result.Keeps s (jpIf cc a s) := by
  unfold jpIf
  dsimp only
  split <;> exact Keeps.finish _ (Kept.cpu rfl id id)

theorem kept_jrIf (cc : Cond) (e : Byte) (s : State) : Result.Keeps s (jrIf cc e s) := by
  unfold jrIf
  dsimp only
  split <;> exact Keeps.finish _ (Kept.cpu rfl id id)

theorem kept_callIf (cc : Cond) (a : Word) (s : State) : Result.Keeps s (callIf cc a s) := by
  unfold callIf
  dsimp only
  split
  · exact Keeps.finish _ ((Kept.fetched s 3).trans (Kept.callTo _ _))
  · exact Keeps.finish _ (Kept.fetched s 3)

theorem kept_retIf (cc : Cond) (s : State) : Result.Keeps s (retIf cc s) := by
  unfold retIf
  dsimp only
  split <;> exact Keeps.finish _ (Kept.cpu rfl id id)

theorem kept_rstTo (y : Nat) (s : State) : Result.Keeps s (rstTo y s) :=
  Keeps.finish _ ((Kept.fetched s 1).trans (Kept.callTo _ _))

theorem kept_unassigned (op : Byte) (s : State) : Result.Keeps s (unassigned op s) := by
  unfold unassigned
  split
  · exact ⟨_, rfl, Kept.cpu rfl id id⟩
  · exact Keeps.finish _ (Kept.fetched s 1)

theorem kept_cbShift (op : ShiftOp) (o : Operand8) (s : State) : Result.Keeps s (cbShift op o s) :=
  Keeps.finish _ (((Kept.fetched s 2).trans (Kept.setOperand _ _ _)).trans (Kept.setF _ _ (packFlags_low _ _ _ _)))

theorem kept_cbBit (b : Nat) (o : Operand8) (s : State) : Result.Keeps s (cbBit b o s) :=
  Keeps.finish _ (Kept.cpu rfl id fun _ => packFlags_low _ _ _ _)

theorem kept_cbRes (b : Nat) (o : Operand8) (s : State) : Result.Keeps s (cbRes b o s) :=
  Keeps.finish _ ((Kept.fetched s 2).trans (Kept.setOperand _ _ _))

theorem kept_cbSet (b : Nat) (o : Operand8) (s : State) : Result.Keeps s (cbSet b o s) :=
  Keeps.finish _ ((Kept.fetched s 2).trans (Kept.setOperand _ _ _))

/-! ### The instructions with a shape of their own -/

theorem kept_execLdMemHlD8 (n : Byte) (s : State) : Result.Keeps s (execLdMemHlD8 n s) :=
  Keeps.finish _ ((Kept.fetched s 2).trans (Kept.busWrite _ _ _))

theorem kept_execLdAMemA16 (a : Word) (s : State) : Result.Keeps s (execLdAMemA16 a s) := Keeps.finish _ (Kept.cpu rfl id id)

theorem kept_execLdMemA16A (a : Word) (s : State) : Result.Keeps s (execLdMemA16A a s) :=
  Keeps.finish _ ((Kept.fetched s 3).trans (Kept.busWrite _ _ _))

theorem kept_execLdhAMemA8 (n : Byte) (s : State) : Result.Keeps s (execLdhAMemA8 n s) := Keeps.finish _ (Kept.cpu rfl id id)

theorem kept_execLdhMemA8A (n : Byte) (s : State) : Result.Keeps s (execLdhMemA8A n s) :=
  Keeps.finish _ ((Kept.fetched s 2).trans (Kept.busWrite _ _ _))

theorem kept_execLdAMemC (s : State) : Result.Keeps s (execLdAMemC s) := Keeps.finish _ (Kept.cpu rfl id id)

theorem kept_execLdMemCA (s : State) : Result.Keeps s (execLdMemCA s) :=
  Keeps.finish _ ((Kept.fetched s 1).trans (Kept.busWrite _ _ _))

theorem kept_execLdAMemHlInc (s : State) : Result.Keeps s (execLdAMemHlInc s) := Keeps.finish _ (Kept.cpu rfl id id)

theorem kept_execLdAMemHlDec (s : State) : Result.Keeps s (execLdAMemHlDec s) := Keeps.finish _ (Kept.cpu rfl id id)

theorem kept_execLdMemHlIncA (s : State) : Result.Keeps s (execLdMemHlIncA s) :=
  Keeps.finish _ (((Kept.fetched s 1).trans (Kept.busWrite _ _ _)).trans (Kept.setPair _ .hl _))

theorem kept_execLdMemHlDecA (s : State) : Result.Keeps s (execLdMemHlDecA s) :=
  Keeps.finish _ (((Kept.fetched s 1).trans (Kept.busWrite _ _ _)).trans (Kept.setPair _ .hl _))

theorem kept_execLdMemA16Sp (a : Word) (s : State) : Result.Keeps s (execLdMemA16Sp a s) :=
  Keeps.finish _ ((Kept.fetched s 3).trans ((Kept.busWrite _ _ _).trans (Kept.busWrite _ _ _)))

theorem kept_execLdSpHl (s : State) : Result.Keeps s (execLdSpHl s) := Keeps.finish _ (Kept.cpu rfl id id)

theorem kept_execIncMemHl (s : State) : Result.Keeps s (execIncMemHl s) :=
  Keeps.finish _ (((Kept.fetched s 1).trans (Kept.busWrite _ _ _)).trans (Kept.setF _ _ (packFlags_low _ _ _ _)))

theorem kept_execDecMemHl (s : State) : Result.Keeps s (execDecMemHl s) :=
  Keeps.finish _ (((Kept.fetched s 1).trans (Kept.busWrite _ _ _)).trans (Kept.setF _ _ (packFlags_low _ _ _ _)))

theorem kept_execDaa (s : State) : Result.Keeps s (execDaa s) := Keeps.finish _ (Kept.cpu rfl id fun _ => daaByte_low _ _ _ _)

theorem kept_execCpl (s : State) : Result.Keeps s (execCpl s) :=
  Keeps.finish _ (Kept.cpu rfl id fun _ => packFlags_low _ _ _ _)

theorem kept_execScf (s : State) : Result.Keeps s (execScf s) :=
  Keeps.finish _ (Kept.cpu rfl id fun _ => packFlags_low _ _ _ _)

theorem kept_execCcf (s : State) : Result.Keeps s (execCcf s) :=
  Keeps.finish _ (Kept.cpu rfl id fun _ => packFlags_low _ _ _ _)

theorem kept_execAddSpE8 (e : Byte) (s : State) : Result.Keeps s (execAddSpE8 e s) :=
  Keeps.finish _ (Kept.cpu rfl id fun _ => packFlags_low _ _ _ _)

theorem kept_execLdHlSpE8 (e : Byte) (s : State) : Result.Keeps s (execLdHlSpE8 e s) :=
  Keeps.finish _ (Kept.cpu rfl id fun _ => packFlags_low _ _ _ _)

theorem kept_execJpA16 (a : Word) (s : State) : Result.Keeps s (execJpA16 a s) := Keeps.finish _ (Kept.cpu rfl id id)

theorem kept_execJpHl (s : State) : Result.Keeps s (execJpHl s) := Keeps.finish _ (Kept.cpu rfl id id)

theorem kept_execJrE8 (e : Byte) (s : State) : Result.Keeps s (execJrE8 e s) := Keeps.finish _ (Kept.cpu rfl id id)

theorem kept_execCallA16 (a : Word) (s : State) : Result.Keeps s (execCallA16 a s) :=
  Keeps.finish _ ((Kept.fetched s 3).trans (Kept.callTo _ _))

theorem kept_execRet (s : State) : Result.Keeps s (execRet s) := Keeps.finish _ (Kept.cpu rfl id id)

theorem kept_execReti (s : State) : Result.Keeps s (execReti s) := Keeps.finish _ (Kept.cpu rfl id id)

theorem kept_execNop (s : State) : Result.Keeps s (execNop s) := Keeps.finish _ (Kept.fetched s 1)

theorem kept_execHalt (s : State) (h : s.stopped = false) : Result.Keeps s (execHalt s) :=
  Keeps.finish _ (Kept.cpu rfl (fun _ k => by have hk : s.stopped = true := k.2; rw [h] at hk; cases hk) id)

theorem kept_execDi (s : State) : Result.Keeps s (execDi s) := Keeps.finish _ (Kept.cpu rfl id id)

theorem kept_execEi (s : State) : Result.Keeps s (execEi s) := Keeps.finish _ (Kept.cpu rfl id id)

theorem kept_execStop (s : State) (h : s.halted = false) : Result.Keeps s (execStop s) := by
  refine Keeps.finish _ ((Kept.fetched s (stopBytes s.params.stopLength)).trans ?_)
  have hu : (s.fetched (stopBytes s.params.stopLength)).halted = false := h
  generalize s.fetched (stopBytes s.params.stopLength) = u at hu
  have h1 : Kept u { u with
      savedP1 := u.rawRead ioP1, savedLcdc := u.rawRead ioLcdc, savedTac := u.rawRead ioTac, pressed := allPressed } :=
    Kept.cpu rfl id id
  exact h1.trans ((Kept.rawWrite _ ioLcdc _ (by decide) (by decide)).trans
    ((Kept.rawWrite _ ioTac _ (by decide) (by decide)).trans (Kept.setStopped _ hu)))

/-- What STOP does to `Raw`: LCDC and TAC (R352). -/
theorem enterStop_raw (s : State) : (enterStop s).raw =
    ((s.rawWrite ioLcdc (s.rawRead ioLcdc &&& 0x7F)).rawWrite ioTac
      ((s.rawWrite ioLcdc (s.rawRead ioLcdc &&& 0x7F)).rawRead ioTac &&& 0xFB)).raw := rfl

theorem rawRead_enterStop_other (s : State) (n : Nat) (h1 : n ≠ ioLcdc) (h2 : n ≠ ioTac) :
    (enterStop s).rawRead n = s.rawRead n := by
  rw [rawRead_congr _ _ (enterStop_raw s), rawRead_rawWrite_other _ _ _ _ h2, rawRead_rawWrite_other _ _ _ _ h1]

theorem rawRead_lcdc_enterStop (s : State) (h : s.rawWf = true) :
    (enterStop s).rawRead ioLcdc = s.rawRead ioLcdc &&& 0x7F := by
  rw [rawRead_congr _ _ (enterStop_raw s), rawRead_rawWrite_other _ _ _ _ (by decide), rawRead_rawWrite_same _ _ _ h]

theorem rawRead_tac_enterStop (s : State) (h : s.rawWf = true) :
    (enterStop s).rawRead ioTac = s.rawRead ioTac &&& 0xFB := by
  rw [rawRead_congr _ _ (enterStop_raw s), rawRead_rawWrite_same _ _ _ (rawWf_rawWrite s _ _ (by decide) h),
    rawRead_rawWrite_other _ _ _ _ (by decide)]

theorem kept_execPrefixCb (c : Byte) (s : State) : Result.Keeps s (execPrefixCb c s) := by
  unfold execPrefixCb
  dsimp only
  split
  · exact kept_cbShift _ _ _
  · exact kept_cbBit _ _ _
  · exact kept_cbRes _ _ _
  · exact kept_cbSet _ _ _

/-! ### Every instruction -/

/-- Every instruction answers a next state, and keeps everything; HALT and STOP from a CPU that runs. -/
theorem exec_kept (i : Instr) (s : State) (hh : i = .halt → s.stopped = false) (hs : i = .stop → s.halted = false) :
    Result.Keeps s (exec i s) :=
  match i, hh, hs with
  | .nop, _, _ => kept_execNop s
  | .ldBcD16 d, _, _ => kept_ldPairImm .bc d s
  | .ldMemBcA, _, _ => kept_ldPairFromA .bc s
  | .incBc, _, _ => kept_incPair .bc s
  | .incB, _, _ => kept_incReg .b s
  | .decB, _, _ => kept_decReg .b s
  | .ldBD8 n, _, _ => kept_ldRegImm .b n s
  | .rlca, _, _ => kept_rotateA .rlc s
  | .ldMemA16Sp a, _, _ => kept_execLdMemA16Sp a s
  | .addHlBc, _, _ => kept_addHlPair .bc s
  | .ldAMemBc, _, _ => kept_ldAFromPair .bc s
  | .decBc, _, _ => kept_decPair .bc s
  | .incC, _, _ => kept_incReg .c s
  | .decC, _, _ => kept_decReg .c s
  | .ldCD8 n, _, _ => kept_ldRegImm .c n s
  | .rrca, _, _ => kept_rotateA .rrc s
  | .stop, _, hs => kept_execStop s (hs rfl)
  | .ldDeD16 d, _, _ => kept_ldPairImm .de d s
  | .ldMemDeA, _, _ => kept_ldPairFromA .de s
  | .incDe, _, _ => kept_incPair .de s
  | .incD, _, _ => kept_incReg .d s
  | .decD, _, _ => kept_decReg .d s
  | .ldDD8 n, _, _ => kept_ldRegImm .d n s
  | .rla, _, _ => kept_rotateA .rl s
  | .jrE8 e, _, _ => kept_execJrE8 e s
  | .addHlDe, _, _ => kept_addHlPair .de s
  | .ldAMemDe, _, _ => kept_ldAFromPair .de s
  | .decDe, _, _ => kept_decPair .de s
  | .incE, _, _ => kept_incReg .e s
  | .decE, _, _ => kept_decReg .e s
  | .ldED8 n, _, _ => kept_ldRegImm .e n s
  | .rra, _, _ => kept_rotateA .rr s
  | .jrNzE8 e, _, _ => kept_jrIf .nz e s
  | .ldHlD16 d, _, _ => kept_ldPairImm .hl d s
  | .ldMemHlIncA, _, _ => kept_execLdMemHlIncA s
  | .incHl, _, _ => kept_incPair .hl s
  | .incH, _, _ => kept_incReg .h s
  | .decH, _, _ => kept_decReg .h s
  | .ldHD8 n, _, _ => kept_ldRegImm .h n s
  | .daa, _, _ => kept_execDaa s
  | .jrZE8 e, _, _ => kept_jrIf .z e s
  | .addHlHl, _, _ => kept_addHlPair .hl s
  | .ldAMemHlInc, _, _ => kept_execLdAMemHlInc s
  | .decHl, _, _ => kept_decPair .hl s
  | .incL, _, _ => kept_incReg .l s
  | .decL, _, _ => kept_decReg .l s
  | .ldLD8 n, _, _ => kept_ldRegImm .l n s
  | .cpl, _, _ => kept_execCpl s
  | .jrNcE8 e, _, _ => kept_jrIf .nc e s
  | .ldSpD16 d, _, _ => kept_ldPairImm .sp d s
  | .ldMemHlDecA, _, _ => kept_execLdMemHlDecA s
  | .incSp, _, _ => kept_incPair .sp s
  | .incMemHl, _, _ => kept_execIncMemHl s
  | .decMemHl, _, _ => kept_execDecMemHl s
  | .ldMemHlD8 n, _, _ => kept_execLdMemHlD8 n s
  | .scf, _, _ => kept_execScf s
  | .jrCE8 e, _, _ => kept_jrIf .c e s
  | .addHlSp, _, _ => kept_addHlPair .sp s
  | .ldAMemHlDec, _, _ => kept_execLdAMemHlDec s
  | .decSp, _, _ => kept_decPair .sp s
  | .incA, _, _ => kept_incReg .a s
  | .decA, _, _ => kept_decReg .a s
  | .ldAD8 n, _, _ => kept_ldRegImm .a n s
  | .ccf, _, _ => kept_execCcf s
  | .ldBB, _, _ => kept_ldRegReg .b .b s
  | .ldBC, _, _ => kept_ldRegReg .b .c s
  | .ldBD, _, _ => kept_ldRegReg .b .d s
  | .ldBE, _, _ => kept_ldRegReg .b .e s
  | .ldBH, _, _ => kept_ldRegReg .b .h s
  | .ldBL, _, _ => kept_ldRegReg .b .l s
  | .ldBMemHl, _, _ => kept_ldRegMemHl .b s
  | .ldBA, _, _ => kept_ldRegReg .b .a s
  | .ldCB, _, _ => kept_ldRegReg .c .b s
  | .ldCC, _, _ => kept_ldRegReg .c .c s
  | .ldCD, _, _ => kept_ldRegReg .c .d s
  | .ldCE, _, _ => kept_ldRegReg .c .e s
  | .ldCH, _, _ => kept_ldRegReg .c .h s
  | .ldCL, _, _ => kept_ldRegReg .c .l s
  | .ldCMemHl, _, _ => kept_ldRegMemHl .c s
  | .ldCA, _, _ => kept_ldRegReg .c .a s
  | .ldDB, _, _ => kept_ldRegReg .d .b s
  | .ldDC, _, _ => kept_ldRegReg .d .c s
  | .ldDD, _, _ => kept_ldRegReg .d .d s
  | .ldDE, _, _ => kept_ldRegReg .d .e s
  | .ldDH, _, _ => kept_ldRegReg .d .h s
  | .ldDL, _, _ => kept_ldRegReg .d .l s
  | .ldDMemHl, _, _ => kept_ldRegMemHl .d s
  | .ldDA, _, _ => kept_ldRegReg .d .a s
  | .ldEB, _, _ => kept_ldRegReg .e .b s
  | .ldEC, _, _ => kept_ldRegReg .e .c s
  | .ldED, _, _ => kept_ldRegReg .e .d s
  | .ldEE, _, _ => kept_ldRegReg .e .e s
  | .ldEH, _, _ => kept_ldRegReg .e .h s
  | .ldEL, _, _ => kept_ldRegReg .e .l s
  | .ldEMemHl, _, _ => kept_ldRegMemHl .e s
  | .ldEA, _, _ => kept_ldRegReg .e .a s
  | .ldHB, _, _ => kept_ldRegReg .h .b s
  | .ldHC, _, _ => kept_ldRegReg .h .c s
  | .ldHD, _, _ => kept_ldRegReg .h .d s
  | .ldHE, _, _ => kept_ldRegReg .h .e s
  | .ldHH, _, _ => kept_ldRegReg .h .h s
  | .ldHL, _, _ => kept_ldRegReg .h .l s
  | .ldHMemHl, _, _ => kept_ldRegMemHl .h s
  | .ldHA, _, _ => kept_ldRegReg .h .a s
  | .ldLB, _, _ => kept_ldRegReg .l .b s
  | .ldLC, _, _ => kept_ldRegReg .l .c s
  | .ldLD, _, _ => kept_ldRegReg .l .d s
  | .ldLE, _, _ => kept_ldRegReg .l .e s
  | .ldLH, _, _ => kept_ldRegReg .l .h s
  | .ldLL, _, _ => kept_ldRegReg .l .l s
  | .ldLMemHl, _, _ => kept_ldRegMemHl .l s
  | .ldLA, _, _ => kept_ldRegReg .l .a s
  | .ldMemHlB, _, _ => kept_ldMemHlReg .b s
  | .ldMemHlC, _, _ => kept_ldMemHlReg .c s
  | .ldMemHlD, _, _ => kept_ldMemHlReg .d s
  | .ldMemHlE, _, _ => kept_ldMemHlReg .e s
  | .ldMemHlH, _, _ => kept_ldMemHlReg .h s
  | .ldMemHlL, _, _ => kept_ldMemHlReg .l s
  | .halt, hh, _ => kept_execHalt s (hh rfl)
  | .ldMemHlA, _, _ => kept_ldMemHlReg .a s
  | .ldAB, _, _ => kept_ldRegReg .a .b s
  | .ldAC, _, _ => kept_ldRegReg .a .c s
  | .ldAD, _, _ => kept_ldRegReg .a .d s
  | .ldAE, _, _ => kept_ldRegReg .a .e s
  | .ldAH, _, _ => kept_ldRegReg .a .h s
  | .ldAL, _, _ => kept_ldRegReg .a .l s
  | .ldAMemHl, _, _ => kept_ldRegMemHl .a s
  | .ldAA, _, _ => kept_ldRegReg .a .a s
  | .addAB, _, _ => kept_aluWith .add (.reg .b) s
  | .addAC, _, _ => kept_aluWith .add (.reg .c) s
  | .addAD, _, _ => kept_aluWith .add (.reg .d) s
  | .addAE, _, _ => kept_aluWith .add (.reg .e) s
  | .addAH, _, _ => kept_aluWith .add (.reg .h) s
  | .addAL, _, _ => kept_aluWith .add (.reg .l) s
  | .addAMemHl, _, _ => kept_aluWith .add .memHl s
  | .addAA, _, _ => kept_aluWith .add (.reg .a) s
  | .adcAB, _, _ => kept_aluWith .adc (.reg .b) s
  | .adcAC, _, _ => kept_aluWith .adc (.reg .c) s
  | .adcAD, _, _ => kept_aluWith .adc (.reg .d) s
  | .adcAE, _, _ => kept_aluWith .adc (.reg .e) s
  | .adcAH, _, _ => kept_aluWith .adc (.reg .h) s
  | .adcAL, _, _ => kept_aluWith .adc (.reg .l) s
  | .adcAMemHl, _, _ => kept_aluWith .adc .memHl s
  | .adcAA, _, _ => kept_aluWith .adc (.reg .a) s
  | .subB, _, _ => kept_aluWith .sub (.reg .b) s
  | .subC, _, _ => kept_aluWith .sub (.reg .c) s
  | .subD, _, _ => kept_aluWith .sub (.reg .d) s
  | .subE, _, _ => kept_aluWith .sub (.reg .e) s
  | .subH, _, _ => kept_aluWith .sub (.reg .h) s
  | .subL, _, _ => kept_aluWith .sub (.reg .l) s
  | .subMemHl, _, _ => kept_aluWith .sub .memHl s
  | .subA, _, _ => kept_aluWith .sub (.reg .a) s
  | .sbcAB, _, _ => kept_aluWith .sbc (.reg .b) s
  | .sbcAC, _, _ => kept_aluWith .sbc (.reg .c) s
  | .sbcAD, _, _ => kept_aluWith .sbc (.reg .d) s
  | .sbcAE, _, _ => kept_aluWith .sbc (.reg .e) s
  | .sbcAH, _, _ => kept_aluWith .sbc (.reg .h) s
  | .sbcAL, _, _ => kept_aluWith .sbc (.reg .l) s
  | .sbcAMemHl, _, _ => kept_aluWith .sbc .memHl s
  | .sbcAA, _, _ => kept_aluWith .sbc (.reg .a) s
  | .andB, _, _ => kept_aluWith .and (.reg .b) s
  | .andC, _, _ => kept_aluWith .and (.reg .c) s
  | .andD, _, _ => kept_aluWith .and (.reg .d) s
  | .andE, _, _ => kept_aluWith .and (.reg .e) s
  | .andH, _, _ => kept_aluWith .and (.reg .h) s
  | .andL, _, _ => kept_aluWith .and (.reg .l) s
  | .andMemHl, _, _ => kept_aluWith .and .memHl s
  | .andA, _, _ => kept_aluWith .and (.reg .a) s
  | .xorB, _, _ => kept_aluWith .xor (.reg .b) s
  | .xorC, _, _ => kept_aluWith .xor (.reg .c) s
  | .xorD, _, _ => kept_aluWith .xor (.reg .d) s
  | .xorE, _, _ => kept_aluWith .xor (.reg .e) s
  | .xorH, _, _ => kept_aluWith .xor (.reg .h) s
  | .xorL, _, _ => kept_aluWith .xor (.reg .l) s
  | .xorMemHl, _, _ => kept_aluWith .xor .memHl s
  | .xorA, _, _ => kept_aluWith .xor (.reg .a) s
  | .orB, _, _ => kept_aluWith .or (.reg .b) s
  | .orC, _, _ => kept_aluWith .or (.reg .c) s
  | .orD, _, _ => kept_aluWith .or (.reg .d) s
  | .orE, _, _ => kept_aluWith .or (.reg .e) s
  | .orH, _, _ => kept_aluWith .or (.reg .h) s
  | .orL, _, _ => kept_aluWith .or (.reg .l) s
  | .orMemHl, _, _ => kept_aluWith .or .memHl s
  | .orA, _, _ => kept_aluWith .or (.reg .a) s
  | .cpB, _, _ => kept_aluWith .cp (.reg .b) s
  | .cpC, _, _ => kept_aluWith .cp (.reg .c) s
  | .cpD, _, _ => kept_aluWith .cp (.reg .d) s
  | .cpE, _, _ => kept_aluWith .cp (.reg .e) s
  | .cpH, _, _ => kept_aluWith .cp (.reg .h) s
  | .cpL, _, _ => kept_aluWith .cp (.reg .l) s
  | .cpMemHl, _, _ => kept_aluWith .cp .memHl s
  | .cpA, _, _ => kept_aluWith .cp (.reg .a) s
  | .retNz, _, _ => kept_retIf .nz s
  | .popBc, _, _ => kept_popPair .bc s
  | .jpNzA16 a, _, _ => kept_jpIf .nz a s
  | .jpA16 a, _, _ => kept_execJpA16 a s
  | .callNzA16 a, _, _ => kept_callIf .nz a s
  | .pushBc, _, _ => kept_pushPair .bc s
  | .addAD8 n, _, _ => kept_aluWith .add (.imm n) s
  | .rst00, _, _ => kept_rstTo 0 s
  | .retZ, _, _ => kept_retIf .z s
  | .ret, _, _ => kept_execRet s
  | .jpZA16 a, _, _ => kept_jpIf .z a s
  | .prefixCb c, _, _ => kept_execPrefixCb c s
  | .callZA16 a, _, _ => kept_callIf .z a s
  | .callA16 a, _, _ => kept_execCallA16 a s
  | .adcAD8 n, _, _ => kept_aluWith .adc (.imm n) s
  | .rst08, _, _ => kept_rstTo 1 s
  | .retNc, _, _ => kept_retIf .nc s
  | .popDe, _, _ => kept_popPair .de s
  | .jpNcA16 a, _, _ => kept_jpIf .nc a s
  | .illegalD3, _, _ => kept_unassigned 0xD3 s
  | .callNcA16 a, _, _ => kept_callIf .nc a s
  | .pushDe, _, _ => kept_pushPair .de s
  | .subD8 n, _, _ => kept_aluWith .sub (.imm n) s
  | .rst10, _, _ => kept_rstTo 2 s
  | .retC, _, _ => kept_retIf .c s
  | .reti, _, _ => kept_execReti s
  | .jpCA16 a, _, _ => kept_jpIf .c a s
  | .illegalDB, _, _ => kept_unassigned 0xDB s
  | .callCA16 a, _, _ => kept_callIf .c a s
  | .illegalDD, _, _ => kept_unassigned 0xDD s
  | .sbcAD8 n, _, _ => kept_aluWith .sbc (.imm n) s
  | .rst18, _, _ => kept_rstTo 3 s
  | .ldhMemA8A n, _, _ => kept_execLdhMemA8A n s
  | .popHl, _, _ => kept_popPair .hl s
  | .ldMemCA, _, _ => kept_execLdMemCA s
  | .illegalE3, _, _ => kept_unassigned 0xE3 s
  | .illegalE4, _, _ => kept_unassigned 0xE4 s
  | .pushHl, _, _ => kept_pushPair .hl s
  | .andD8 n, _, _ => kept_aluWith .and (.imm n) s
  | .rst20, _, _ => kept_rstTo 4 s
  | .addSpE8 e, _, _ => kept_execAddSpE8 e s
  | .jpHl, _, _ => kept_execJpHl s
  | .ldMemA16A a, _, _ => kept_execLdMemA16A a s
  | .illegalEB, _, _ => kept_unassigned 0xEB s
  | .illegalEC, _, _ => kept_unassigned 0xEC s
  | .illegalED, _, _ => kept_unassigned 0xED s
  | .xorD8 n, _, _ => kept_aluWith .xor (.imm n) s
  | .rst28, _, _ => kept_rstTo 5 s
  | .ldhAMemA8 n, _, _ => kept_execLdhAMemA8 n s
  | .popAf, _, _ => kept_popPair .af s
  | .ldAMemC, _, _ => kept_execLdAMemC s
  | .di, _, _ => kept_execDi s
  | .illegalF4, _, _ => kept_unassigned 0xF4 s
  | .pushAf, _, _ => kept_pushPair .af s
  | .orD8 n, _, _ => kept_aluWith .or (.imm n) s
  | .rst30, _, _ => kept_rstTo 6 s
  | .ldHlSpE8 e, _, _ => kept_execLdHlSpE8 e s
  | .ldSpHl, _, _ => kept_execLdSpHl s
  | .ldAMemA16 a, _, _ => kept_execLdAMemA16 a s
  | .ei, _, _ => kept_execEi s
  | .illegalFC, _, _ => kept_unassigned 0xFC s
  | .illegalFD, _, _ => kept_unassigned 0xFD s
  | .cpD8 n, _, _ => kept_aluWith .cp (.imm n) s
  | .rst38, _, _ => kept_rstTo 7 s
  | .rlcB, _, _ => kept_cbShift .rlc (.reg .b) s
  | .rlcC, _, _ => kept_cbShift .rlc (.reg .c) s
  | .rlcD, _, _ => kept_cbShift .rlc (.reg .d) s
  | .rlcE, _, _ => kept_cbShift .rlc (.reg .e) s
  | .rlcH, _, _ => kept_cbShift .rlc (.reg .h) s
  | .rlcL, _, _ => kept_cbShift .rlc (.reg .l) s
  | .rlcMemHl, _, _ => kept_cbShift .rlc .memHl s
  | .rlcA, _, _ => kept_cbShift .rlc (.reg .a) s
  | .rrcB, _, _ => kept_cbShift .rrc (.reg .b) s
  | .rrcC, _, _ => kept_cbShift .rrc (.reg .c) s
  | .rrcD, _, _ => kept_cbShift .rrc (.reg .d) s
  | .rrcE, _, _ => kept_cbShift .rrc (.reg .e) s
  | .rrcH, _, _ => kept_cbShift .rrc (.reg .h) s
  | .rrcL, _, _ => kept_cbShift .rrc (.reg .l) s
  | .rrcMemHl, _, _ => kept_cbShift .rrc .memHl s
  | .rrcA, _, _ => kept_cbShift .rrc (.reg .a) s
  | .rlB, _, _ => kept_cbShift .rl (.reg .b) s
  | .rlC, _, _ => kept_cbShift .rl (.reg .c) s
  | .rlD, _, _ => kept_cbShift .rl (.reg .d) s
  | .rlE, _, _ => kept_cbShift .rl (.reg .e) s
  | .rlH, _, _ => kept_cbShift .rl (.reg .h) s
  | .rlL, _, _ => kept_cbShift .rl (.reg .l) s
  | .rlMemHl, _, _ => kept_cbShift .rl .memHl s
  | .rlA, _, _ => kept_cbShift .rl (.reg .a) s
  | .rrB, _, _ => kept_cbShift .rr (.reg .b) s
  | .rrC, _, _ => kept_cbShift .rr (.reg .c) s
  | .rrD, _, _ => kept_cbShift .rr (.reg .d) s
  | .rrE, _, _ => kept_cbShift .rr (.reg .e) s
  | .rrH, _, _ => kept_cbShift .rr (.reg .h) s
  | .rrL, _, _ => kept_cbShift .rr (.reg .l) s
  | .rrMemHl, _, _ => kept_cbShift .rr .memHl s
  | .rrA, _, _ => kept_cbShift .rr (.reg .a) s
  | .slaB, _, _ => kept_cbShift .sla (.reg .b) s
  | .slaC, _, _ => kept_cbShift .sla (.reg .c) s
  | .slaD, _, _ => kept_cbShift .sla (.reg .d) s
  | .slaE, _, _ => kept_cbShift .sla (.reg .e) s
  | .slaH, _, _ => kept_cbShift .sla (.reg .h) s
  | .slaL, _, _ => kept_cbShift .sla (.reg .l) s
  | .slaMemHl, _, _ => kept_cbShift .sla .memHl s
  | .slaA, _, _ => kept_cbShift .sla (.reg .a) s
  | .sraB, _, _ => kept_cbShift .sra (.reg .b) s
  | .sraC, _, _ => kept_cbShift .sra (.reg .c) s
  | .sraD, _, _ => kept_cbShift .sra (.reg .d) s
  | .sraE, _, _ => kept_cbShift .sra (.reg .e) s
  | .sraH, _, _ => kept_cbShift .sra (.reg .h) s
  | .sraL, _, _ => kept_cbShift .sra (.reg .l) s
  | .sraMemHl, _, _ => kept_cbShift .sra .memHl s
  | .sraA, _, _ => kept_cbShift .sra (.reg .a) s
  | .swapB, _, _ => kept_cbShift .swap (.reg .b) s
  | .swapC, _, _ => kept_cbShift .swap (.reg .c) s
  | .swapD, _, _ => kept_cbShift .swap (.reg .d) s
  | .swapE, _, _ => kept_cbShift .swap (.reg .e) s
  | .swapH, _, _ => kept_cbShift .swap (.reg .h) s
  | .swapL, _, _ => kept_cbShift .swap (.reg .l) s
  | .swapMemHl, _, _ => kept_cbShift .swap .memHl s
  | .swapA, _, _ => kept_cbShift .swap (.reg .a) s
  | .srlB, _, _ => kept_cbShift .srl (.reg .b) s
  | .srlC, _, _ => kept_cbShift .srl (.reg .c) s
  | .srlD, _, _ => kept_cbShift .srl (.reg .d) s
  | .srlE, _, _ => kept_cbShift .srl (.reg .e) s
  | .srlH, _, _ => kept_cbShift .srl (.reg .h) s
  | .srlL, _, _ => kept_cbShift .srl (.reg .l) s
  | .srlMemHl, _, _ => kept_cbShift .srl .memHl s
  | .srlA, _, _ => kept_cbShift .srl (.reg .a) s
  | .bit0B, _, _ => kept_cbBit 0 (.reg .b) s
  | .bit0C, _, _ => kept_cbBit 0 (.reg .c) s
  | .bit0D, _, _ => kept_cbBit 0 (.reg .d) s
  | .bit0E, _, _ => kept_cbBit 0 (.reg .e) s
  | .bit0H, _, _ => kept_cbBit 0 (.reg .h) s
  | .bit0L, _, _ => kept_cbBit 0 (.reg .l) s
  | .bit0MemHl, _, _ => kept_cbBit 0 .memHl s
  | .bit0A, _, _ => kept_cbBit 0 (.reg .a) s
  | .bit1B, _, _ => kept_cbBit 1 (.reg .b) s
  | .bit1C, _, _ => kept_cbBit 1 (.reg .c) s
  | .bit1D, _, _ => kept_cbBit 1 (.reg .d) s
  | .bit1E, _, _ => kept_cbBit 1 (.reg .e) s
  | .bit1H, _, _ => kept_cbBit 1 (.reg .h) s
  | .bit1L, _, _ => kept_cbBit 1 (.reg .l) s
  | .bit1MemHl, _, _ => kept_cbBit 1 .memHl s
  | .bit1A, _, _ => kept_cbBit 1 (.reg .a) s
  | .bit2B, _, _ => kept_cbBit 2 (.reg .b) s
  | .bit2C, _, _ => kept_cbBit 2 (.reg .c) s
  | .bit2D, _, _ => kept_cbBit 2 (.reg .d) s
  | .bit2E, _, _ => kept_cbBit 2 (.reg .e) s
  | .bit2H, _, _ => kept_cbBit 2 (.reg .h) s
  | .bit2L, _, _ => kept_cbBit 2 (.reg .l) s
  | .bit2MemHl, _, _ => kept_cbBit 2 .memHl s
  | .bit2A, _, _ => kept_cbBit 2 (.reg .a) s
  | .bit3B, _, _ => kept_cbBit 3 (.reg .b) s
  | .bit3C, _, _ => kept_cbBit 3 (.reg .c) s
  | .bit3D, _, _ => kept_cbBit 3 (.reg .d) s
  | .bit3E, _, _ => kept_cbBit 3 (.reg .e) s
  | .bit3H, _, _ => kept_cbBit 3 (.reg .h) s
  | .bit3L, _, _ => kept_cbBit 3 (.reg .l) s
  | .bit3MemHl, _, _ => kept_cbBit 3 .memHl s
  | .bit3A, _, _ => kept_cbBit 3 (.reg .a) s
  | .bit4B, _, _ => kept_cbBit 4 (.reg .b) s
  | .bit4C, _, _ => kept_cbBit 4 (.reg .c) s
  | .bit4D, _, _ => kept_cbBit 4 (.reg .d) s
  | .bit4E, _, _ => kept_cbBit 4 (.reg .e) s
  | .bit4H, _, _ => kept_cbBit 4 (.reg .h) s
  | .bit4L, _, _ => kept_cbBit 4 (.reg .l) s
  | .bit4MemHl, _, _ => kept_cbBit 4 .memHl s
  | .bit4A, _, _ => kept_cbBit 4 (.reg .a) s
  | .bit5B, _, _ => kept_cbBit 5 (.reg .b) s
  | .bit5C, _, _ => kept_cbBit 5 (.reg .c) s
  | .bit5D, _, _ => kept_cbBit 5 (.reg .d) s
  | .bit5E, _, _ => kept_cbBit 5 (.reg .e) s
  | .bit5H, _, _ => kept_cbBit 5 (.reg .h) s
  | .bit5L, _, _ => kept_cbBit 5 (.reg .l) s
  | .bit5MemHl, _, _ => kept_cbBit 5 .memHl s
  | .bit5A, _, _ => kept_cbBit 5 (.reg .a) s
  | .bit6B, _, _ => kept_cbBit 6 (.reg .b) s
  | .bit6C, _, _ => kept_cbBit 6 (.reg .c) s
  | .bit6D, _, _ => kept_cbBit 6 (.reg .d) s
  | .bit6E, _, _ => kept_cbBit 6 (.reg .e) s
  | .bit6H, _, _ => kept_cbBit 6 (.reg .h) s
  | .bit6L, _, _ => kept_cbBit 6 (.reg .l) s
  | .bit6MemHl, _, _ => kept_cbBit 6 .memHl s
  | .bit6A, _, _ => kept_cbBit 6 (.reg .a) s
  | .bit7B, _, _ => kept_cbBit 7 (.reg .b) s
  | .bit7C, _, _ => kept_cbBit 7 (.reg .c) s
  | .bit7D, _, _ => kept_cbBit 7 (.reg .d) s
  | .bit7E, _, _ => kept_cbBit 7 (.reg .e) s
  | .bit7H, _, _ => kept_cbBit 7 (.reg .h) s
  | .bit7L, _, _ => kept_cbBit 7 (.reg .l) s
  | .bit7MemHl, _, _ => kept_cbBit 7 .memHl s
  | .bit7A, _, _ => kept_cbBit 7 (.reg .a) s
  | .res0B, _, _ => kept_cbRes 0 (.reg .b) s
  | .res0C, _, _ => kept_cbRes 0 (.reg .c) s
  | .res0D, _, _ => kept_cbRes 0 (.reg .d) s
  | .res0E, _, _ => kept_cbRes 0 (.reg .e) s
  | .res0H, _, _ => kept_cbRes 0 (.reg .h) s
  | .res0L, _, _ => kept_cbRes 0 (.reg .l) s
  | .res0MemHl, _, _ => kept_cbRes 0 .memHl s
  | .res0A, _, _ => kept_cbRes 0 (.reg .a) s
  | .res1B, _, _ => kept_cbRes 1 (.reg .b) s
  | .res1C, _, _ => kept_cbRes 1 (.reg .c) s
  | .res1D, _, _ => kept_cbRes 1 (.reg .d) s
  | .res1E, _, _ => kept_cbRes 1 (.reg .e) s
  | .res1H, _, _ => kept_cbRes 1 (.reg .h) s
  | .res1L, _, _ => kept_cbRes 1 (.reg .l) s
  | .res1MemHl, _, _ => kept_cbRes 1 .memHl s
  | .res1A, _, _ => kept_cbRes 1 (.reg .a) s
  | .res2B, _, _ => kept_cbRes 2 (.reg .b) s
  | .res2C, _, _ => kept_cbRes 2 (.reg .c) s
  | .res2D, _, _ => kept_cbRes 2 (.reg .d) s
  | .res2E, _, _ => kept_cbRes 2 (.reg .e) s
  | .res2H, _, _ => kept_cbRes 2 (.reg .h) s
  | .res2L, _, _ => kept_cbRes 2 (.reg .l) s
  | .res2MemHl, _, _ => kept_cbRes 2 .memHl s
  | .res2A, _, _ => kept_cbRes 2 (.reg .a) s
  | .res3B, _, _ => kept_cbRes 3 (.reg .b) s
  | .res3C, _, _ => kept_cbRes 3 (.reg .c) s
  | .res3D, _, _ => kept_cbRes 3 (.reg .d) s
  | .res3E, _, _ => kept_cbRes 3 (.reg .e) s
  | .res3H, _, _ => kept_cbRes 3 (.reg .h) s
  | .res3L, _, _ => kept_cbRes 3 (.reg .l) s
  | .res3MemHl, _, _ => kept_cbRes 3 .memHl s
  | .res3A, _, _ => kept_cbRes 3 (.reg .a) s
  | .res4B, _, _ => kept_cbRes 4 (.reg .b) s
  | .res4C, _, _ => kept_cbRes 4 (.reg .c) s
  | .res4D, _, _ => kept_cbRes 4 (.reg .d) s
  | .res4E, _, _ => kept_cbRes 4 (.reg .e) s
  | .res4H, _, _ => kept_cbRes 4 (.reg .h) s
  | .res4L, _, _ => kept_cbRes 4 (.reg .l) s
  | .res4MemHl, _, _ => kept_cbRes 4 .memHl s
  | .res4A, _, _ => kept_cbRes 4 (.reg .a) s
  | .res5B, _, _ => kept_cbRes 5 (.reg .b) s
  | .res5C, _, _ => kept_cbRes 5 (.reg .c) s
  | .res5D, _, _ => kept_cbRes 5 (.reg .d) s
  | .res5E, _, _ => kept_cbRes 5 (.reg .e) s
  | .res5H, _, _ => kept_cbRes 5 (.reg .h) s
  | .res5L, _, _ => kept_cbRes 5 (.reg .l) s
  | .res5MemHl, _, _ => kept_cbRes 5 .memHl s
  | .res5A, _, _ => kept_cbRes 5 (.reg .a) s
  | .res6B, _, _ => kept_cbRes 6 (.reg .b) s
  | .res6C, _, _ => kept_cbRes 6 (.reg .c) s
  | .res6D, _, _ => kept_cbRes 6 (.reg .d) s
  | .res6E, _, _ => kept_cbRes 6 (.reg .e) s
  | .res6H, _, _ => kept_cbRes 6 (.reg .h) s
  | .res6L, _, _ => kept_cbRes 6 (.reg .l) s
  | .res6MemHl, _, _ => kept_cbRes 6 .memHl s
  | .res6A, _, _ => kept_cbRes 6 (.reg .a) s
  | .res7B, _, _ => kept_cbRes 7 (.reg .b) s
  | .res7C, _, _ => kept_cbRes 7 (.reg .c) s
  | .res7D, _, _ => kept_cbRes 7 (.reg .d) s
  | .res7E, _, _ => kept_cbRes 7 (.reg .e) s
  | .res7H, _, _ => kept_cbRes 7 (.reg .h) s
  | .res7L, _, _ => kept_cbRes 7 (.reg .l) s
  | .res7MemHl, _, _ => kept_cbRes 7 .memHl s
  | .res7A, _, _ => kept_cbRes 7 (.reg .a) s
  | .set0B, _, _ => kept_cbSet 0 (.reg .b) s
  | .set0C, _, _ => kept_cbSet 0 (.reg .c) s
  | .set0D, _, _ => kept_cbSet 0 (.reg .d) s
  | .set0E, _, _ => kept_cbSet 0 (.reg .e) s
  | .set0H, _, _ => kept_cbSet 0 (.reg .h) s
  | .set0L, _, _ => kept_cbSet 0 (.reg .l) s
  | .set0MemHl, _, _ => kept_cbSet 0 .memHl s
  | .set0A, _, _ => kept_cbSet 0 (.reg .a) s
  | .set1B, _, _ => kept_cbSet 1 (.reg .b) s
  | .set1C, _, _ => kept_cbSet 1 (.reg .c) s
  | .set1D, _, _ => kept_cbSet 1 (.reg .d) s
  | .set1E, _, _ => kept_cbSet 1 (.reg .e) s
  | .set1H, _, _ => kept_cbSet 1 (.reg .h) s
  | .set1L, _, _ => kept_cbSet 1 (.reg .l) s
  | .set1MemHl, _, _ => kept_cbSet 1 .memHl s
  | .set1A, _, _ => kept_cbSet 1 (.reg .a) s
  | .set2B, _, _ => kept_cbSet 2 (.reg .b) s
  | .set2C, _, _ => kept_cbSet 2 (.reg .c) s
  | .set2D, _, _ => kept_cbSet 2 (.reg .d) s
  | .set2E, _, _ => kept_cbSet 2 (.reg .e) s
  | .set2H, _, _ => kept_cbSet 2 (.reg .h) s
  | .set2L, _, _ => kept_cbSet 2 (.reg .l) s
  | .set2MemHl, _, _ => kept_cbSet 2 .memHl s
  | .set2A, _, _ => kept_cbSet 2 (.reg .a) s
  | .set3B, _, _ => kept_cbSet 3 (.reg .b) s
  | .set3C, _, _ => kept_cbSet 3 (.reg .c) s
  | .set3D, _, _ => kept_cbSet 3 (.reg .d) s
  | .set3E, _, _ => kept_cbSet 3 (.reg .e) s
  | .set3H, _, _ => kept_cbSet 3 (.reg .h) s
  | .set3L, _, _ => kept_cbSet 3 (.reg .l) s
  | .set3MemHl, _, _ => kept_cbSet 3 .memHl s
  | .set3A, _, _ => kept_cbSet 3 (.reg .a) s
  | .set4B, _, _ => kept_cbSet 4 (.reg .b) s
  | .set4C, _, _ => kept_cbSet 4 (.reg .c) s
  | .set4D, _, _ => kept_cbSet 4 (.reg .d) s
  | .set4E, _, _ => kept_cbSet 4 (.reg .e) s
  | .set4H, _, _ => kept_cbSet 4 (.reg .h) s
  | .set4L, _, _ => kept_cbSet 4 (.reg .l) s
  | .set4MemHl, _, _ => kept_cbSet 4 .memHl s
  | .set4A, _, _ => kept_cbSet 4 (.reg .a) s
  | .set5B, _, _ => kept_cbSet 5 (.reg .b) s
  | .set5C, _, _ => kept_cbSet 5 (.reg .c) s
  | .set5D, _, _ => kept_cbSet 5 (.reg .d) s
  | .set5E, _, _ => kept_cbSet 5 (.reg .e) s
  | .set5H, _, _ => kept_cbSet 5 (.reg .h) s
  | .set5L, _, _ => kept_cbSet 5 (.reg .l) s
  | .set5MemHl, _, _ => kept_cbSet 5 .memHl s
  | .set5A, _, _ => kept_cbSet 5 (.reg .a) s
  | .set6B, _, _ => kept_cbSet 6 (.reg .b) s
  | .set6C, _, _ => kept_cbSet 6 (.reg .c) s
  | .set6D, _, _ => kept_cbSet 6 (.reg .d) s
  | .set6E, _, _ => kept_cbSet 6 (.reg .e) s
  | .set6H, _, _ => kept_cbSet 6 (.reg .h) s
  | .set6L, _, _ => kept_cbSet 6 (.reg .l) s
  | .set6MemHl, _, _ => kept_cbSet 6 .memHl s
  | .set6A, _, _ => kept_cbSet 6 (.reg .a) s
  | .set7B, _, _ => kept_cbSet 7 (.reg .b) s
  | .set7C, _, _ => kept_cbSet 7 (.reg .c) s
  | .set7D, _, _ => kept_cbSet 7 (.reg .d) s
  | .set7E, _, _ => kept_cbSet 7 (.reg .e) s
  | .set7H, _, _ => kept_cbSet 7 (.reg .h) s
  | .set7L, _, _ => kept_cbSet 7 (.reg .l) s
  | .set7MemHl, _, _ => kept_cbSet 7 .memHl s
  | .set7A, _, _ => kept_cbSet 7 (.reg .a) s

/-- Every instruction answers a next state. -/
theorem exec_next (i : Instr) (s : State) : ∃ t, exec i s = .next t := by
  by_cases h1 : i = .halt
  · exact ⟨_, by rw [h1]; rfl⟩
  by_cases h2 : i = .stop
  · exact ⟨_, by rw [h2]; rfl⟩
  · exact (exec_kept i s (fun h => absurd h h1) (fun h => absurd h h2)).imp fun _ h => h.1

end Sys2Proof.Machine
end

