-- ==== Sys2Proof/Laws/Moved.lean ====
section
/-! SUPPORT. The bus does not look at PC, SP and the cycle count: its operations commute with replacing them. -/

namespace Sys2Proof.Machine

open Sys2Proof

/-- The state with PC, SP and the step's cycles replaced: what no bus access looks at. -/
def State.moved (s : State) (p q : Word) (c : Int) : State := { s with pc := p, sp := q, cycles := c }

theorem ite_moved (P : Prop) [Decidable P] (s t : State) (p q : Word) (c : Int) :
    (if P then s else t).moved p q c = if P then s.moved p q c else t.moved p q c := apply_ite (·.moved p q c) P s t

theorem busRead_moved (s : State) (p q : Word) (c : Int) (a : Word) : busRead (s.moved p q c) a = busRead s a := rfl

theorem rawRead_moved (s : State) (p q : Word) (c : Int) (n : Nat) : (s.moved p q c).rawRead n = s.rawRead n := rfl

theorem rawWrite_moved (s : State) (p q : Word) (c : Int) (n : Nat) (v : Byte) :
    (s.moved p q c).rawWrite n v = (s.rawWrite n v).moved p q c := rfl

theorem requestInterrupt_moved (i : Nat) (s : State) (p q : Word) (c : Int) :
    requestInterrupt i (s.moved p q c) = (requestInterrupt i s).moved p q c := rfl

theorem checkCoincidence_moved (s : State) (p q : Word) (c : Int) :
    checkCoincidence (s.moved p q c) = (checkCoincidence s).moved p q c := by
  simp only [checkCoincidence, rawRead_moved, rawWrite_moved, requestInterrupt_moved, ite_moved]
  rfl

theorem dmaCopy_moved (src : Word) (k : Nat) (s : State) (p q : Word) (c : Int) :
    dmaCopy src k (s.moved p q c) = (dmaCopy src k s).moved p q c := by
  induction k with
  | zero => rfl
  | succ k ih => simp only [dmaCopy, ih, rawWrite_moved, busRead_moved]

theorem registerWrite_moved (n : Nat) (v : Byte) (s : State) (p q : Word) (c : Int) :
    registerWrite n v (s.moved p q c) = (registerWrite n v s).moved p q c := by
  have hp : (s.moved p q c).params = s.params := rfl
  cases hl : s.params.lyWrite <;>
    simp only [registerWrite, rawRead_moved, rawWrite_moved, checkCoincidence_moved, dmaCopy_moved, ite_moved, hp, hl]

theorem mbcWrite_moved (n : Nat) (v : Byte) (s : State) (p q : Word) (c : Int) :
    mbcWrite n v (s.moved p q c) = (mbcWrite n v s).moved p q c := by
  have hf : (s.moved p q c).family = s.family := rfl
  have hm : (s.moved p q c).romBankingMode = s.romBankingMode := rfl
  unfold mbcWrite
  rw [hf]
  cases s.family
  · rfl
  · simp only [mbc1Write, ramEnableWrite, setRomBank, ite_moved, hm]; rfl
  · simp only [mbc2Write, ramEnableWrite, setRomBank, ite_moved]; rfl
  · simp only [mbc3Write, ramEnableWrite, setRomBank, ite_moved]; rfl

theorem busWrite_moved (a : Word) (v : Byte) (s : State) (p q : Word) (c : Int) :
    busWrite a v (s.moved p q c) = (busWrite a v s).moved p q c := by
  have hp : (s.moved p q c).params = s.params := rfl
  have he : (s.moved p q c).ramEnabled = s.ramEnabled := rfl
  unfold busWrite
  dsimp only
  rw [hp]
  cases regionOf s.params a.toNat
  · exact mbcWrite_moved _ _ _ _ _ _
  · exact mbcWrite_moved _ _ _ _ _ _
  · rfl
  · simp only [he, ite_moved]; rfl
  · rfl
  · rfl
  · rfl
  · rfl
  · rfl
  · exact registerWrite_moved _ _ _ _ _ _
  · exact registerWrite_moved _ _ _ _ _ _

/-- A CPU write from a state with another PC. -/
theorem busWrite_atPc (a : Word) (v : Byte) (s : State) (p : Word) :
    busWrite a v { s with pc := p } = { busWrite a v s with pc := p } := by
  have h : busWrite a v { s with pc := p } = (busWrite a v s).moved p s.sp s.cycles := busWrite_moved a v s p s.sp s.cycles
  rw [h, State.moved]
  simp only [← busWrite_sp a v s, ← busWrite_cycles a v s]

/-- A push is two writes, the high byte's first (R85). -/
theorem push16_eq_moved (v : Word) (s : State) : push16 v s =
    (busWrite (s.sp - 2) (lowByte v) (busWrite (s.sp - 1) (highByte v) s)).moved s.pc (s.sp - 2) s.cycles := by
  have h1 : busWrite (s.sp - 1) (highByte v) { s with sp := s.sp - 1 } =
      (busWrite (s.sp - 1) (highByte v) s).moved s.pc (s.sp - 1) s.cycles := busWrite_moved _ _ s _ _ _
  have h2 : s.sp - 1 - 1 = s.sp - 2 := by bv_omega
  unfold push16
  rw [h1]
  dsimp only [State.moved]
  rw [h2]
  exact busWrite_moved _ _ (busWrite (s.sp - 1) (highByte v) s) _ _ _
/-- A push from a state with another PC. -/
theorem push16_atPc (v : Word) (s : State) (p : Word) : push16 v { s with pc := p } =
    { busWrite (s.sp - 2) (lowByte v) (busWrite (s.sp - 1) (highByte v) s) with sp := s.sp - 2, pc := p } := by
  have h1 : busWrite (s.sp - 1) (highByte v) { s with pc := p } =
      (busWrite (s.sp - 1) (highByte v) s).moved p s.sp s.cycles := busWrite_moved _ _ s _ _ _
  rw [push16_eq_moved]
  show (busWrite (s.sp - 2) _ (busWrite (s.sp - 1) _ { s with pc := p })).moved p (s.sp - 2) s.cycles = _
  rw [h1, busWrite_moved]
  simp only [State.moved]
  congr 1
  simp

/-- Writing an operand from a state with another PC. -/
theorem setOperand_atPc (o : Operand8) (v : Byte) (s : State) (p : Word) :
    State.setOperand { s with pc := p } o v = { s.setOperand o v with pc := p } := by
  cases o with
  | reg r => cases r <;> rfl
  | memHl => exact busWrite_atPc s.hl v s p

end Sys2Proof.Machine
end

