-- ==== Sys2Proof/Laws/Frame.lean ====
section
/-! SUPPORT. What a store leaves unchanged: every address outside the stored bytes reads as before (20_memory.md R71, R72).
One lemma for each shape of a meaning; the statement about `exec` puts them together. -/

namespace Sys2Proof.Machine

open Sys2Proof

/-- What a read depends on (R71). -/
theorem busRead_congr {s t : State} (h : t = { s with
      a := t.a, f := t.f, b := t.b, c := t.c, d := t.d, e := t.e, h := t.h, l := t.l, sp := t.sp, pc := t.pc, ime := t.ime,
      imePend := t.imePend, imePendFresh := t.imePendFresh, halted := t.halted, stopped := t.stopped,
      savedP1 := t.savedP1, savedLcdc := t.savedLcdc, savedTac := t.savedTac, fault := t.fault, cycles := t.cycles }) (x : Word) :
    busRead t x = busRead s x := by
  rw [h]
  rfl

/-- A read of `Raw` alone: the regions that are neither switchable ROM nor external RAM. -/
theorem regionRead_raw (r : Region) (n : Nat) (s t : State) (hraw : r ≠ .romSwitchable → r ≠ .externalRam →
      (r = .joypad → t.rawRead ioP1 = s.rawRead ioP1) ∧ (r = .echoRam → t.rawRead (n - 0x2000) = s.rawRead (n - 0x2000)) ∧
      (r ≠ .joypad → r ≠ .echoRam → t.rawRead n = s.rawRead n))
    (ht : t = { s with raw := t.raw }) : regionRead r n t = regionRead r n s := by
  cases r
  · exact (hraw (by decide) (by decide)).2.2 (by decide) (by decide)
  · rw [ht]; rfl
  · exact (hraw (by decide) (by decide)).2.2 (by decide) (by decide)
  · rw [ht]; rfl
  · exact (hraw (by decide) (by decide)).2.2 (by decide) (by decide)
  · exact (hraw (by decide) (by decide)).2.1 rfl
  · exact (hraw (by decide) (by decide)).2.2 (by decide) (by decide)
  · rfl
  · have hp : t.pressed = s.pressed := by rw [ht]
    simp only [regionRead, hp, (hraw (by decide) (by decide)).1 rfl]
  · rfl
  · exact (hraw (by decide) (by decide)).2.2 (by decide) (by decide)

/-- The place in `Raw` that a read of `x` looks at (R71). -/
def rawPlace (x : Word) : Nat := (homeOf x).toNat

theorem rawPlace_echo (x : Word) (h : 0xE000 ≤ x.toNat ∧ x.toNat < 0xFE00) : rawPlace x = x.toNat - 0x2000 := by
  have hx := x.isLt
  unfold rawPlace homeOf
  rw [if_pos (by constructor <;> (simp only [BitVec.le_def, BitVec.lt_def]; simp; omega)), BitVec.toNat_sub]
  simp
  omega

theorem rawPlace_plain (x : Word) (h : x.toNat < 0xE000 ∨ 0xFE00 ≤ x.toNat) : rawPlace x = x.toNat := by
  unfold rawPlace homeOf
  rw [if_neg]
  simp only [BitVec.le_def, BitVec.lt_def]
  simp
  omega

/-- A change of `Raw` that leaves the place of `x` as it is does not show in a read of `x`. -/
theorem busRead_raw {s t : State} (x : Word) (ht : t = { s with raw := t.raw })
    (hx : t.rawRead (rawPlace x) = s.rawRead (rawPlace x)) : busRead t x = busRead s x := by
  have hp : t.params = s.params := by rw [ht]
  show regionRead (regionOf t.params x.toNat) x.toNat t = regionRead (regionOf s.params x.toNat) x.toNat s
  rw [hp]
  refine regionRead_raw _ _ s t ?_ ht
  intro h1 h2
  rcases regionOf_cases s.params x.toNat with c | c | c | c | c | c | c | c | c | c | c
  · rw [rawPlace_plain x (by omega)] at hx
    rw [c.2]; exact ⟨nofun, nofun, fun _ _ => hx⟩
  · exact absurd c.2.2 h1
  · rw [rawPlace_plain x (by omega)] at hx
    rw [c.2.2]; exact ⟨nofun, nofun, fun _ _ => hx⟩
  · exact absurd c.2.2 h2
  · rw [rawPlace_plain x (by omega)] at hx
    rw [c.2.2]; exact ⟨nofun, nofun, fun _ _ => hx⟩
  · rw [rawPlace_echo x ⟨c.1, c.2.1⟩] at hx
    rw [c.2.2]; exact ⟨nofun, fun _ => hx, fun _ h => absurd rfl h⟩
  · rw [rawPlace_plain x (by omega)] at hx
    rw [c.2.2]; exact ⟨nofun, nofun, fun _ _ => hx⟩
  · rw [rawPlace_plain x (by omega)] at hx
    rw [c.2.2]; exact ⟨nofun, nofun, fun _ _ => hx⟩
  · rw [rawPlace_plain x (by omega), c.1] at hx
    rw [c.2]; exact ⟨fun _ => hx, nofun, fun h => absurd rfl h⟩
  · rw [rawPlace_plain x (by omega)] at hx
    rw [c.2.2.2]; exact ⟨nofun, nofun, fun _ _ => hx⟩
  · rw [rawPlace_plain x (by omega)] at hx
    rw [c.2.2]; exact ⟨nofun, nofun, fun _ _ => hx⟩

/-- A write to the RAM banks shows in no other address (R76). -/
theorem busRead_ramWrite (s : State) (a x : Word) (v : Byte) (ha : regionOf s.params a.toNat = .externalRam) (hx : x ≠ a) :
    busRead (s.ramWrite (s.ramOffset a.toNat) v) x = busRead s x := by
  show regionRead (regionOf s.params x.toNat) x.toNat _ = regionRead (regionOf s.params x.toNat) x.toNat s
  cases hr : regionOf s.params x.toNat
  case externalRam =>
    have h1 := regionOf_externalRam _ _ ha
    have h2 := regionOf_externalRam _ _ hr
    have h3 : x.toNat ≠ a.toNat := fun h => hx (BitVec.eq_of_toNat_eq h)
    have h4 : s.ramOffset x.toNat ≠ s.ramOffset a.toNat := by unfold State.ramOffset; omega
    have h5 : (s.ramWrite (s.ramOffset a.toNat) v).ramRead (s.ramOffset x.toNat) = s.ramRead (s.ramOffset x.toNat) :=
      Memory.read_write_other zeroByte s.ramBanks _ _ v h4
    show (if s.ramEnabled then (s.ramWrite (s.ramOffset a.toNat) v).ramRead (s.ramOffset x.toNat) else 0xFF) = _
    rw [h5]
    rfl
  all_goals rfl

/-- A store that stores one byte shows in no address outside it (R72). -/
theorem busRead_busWrite_other (s : State) (a x : Word) (v : Byte) (ha : storesOneByte a) (hx : homeOf x ≠ homeOf a) :
    busRead (busWrite a v s) x = busRead s x := by
  obtain ⟨h8, hlyc, hdma⟩ := ha
  have hne : x ≠ a := fun h => hx (by rw [h])
  have hpl : rawPlace x ≠ rawPlace a := fun h => hx (BitVec.eq_of_toNat_eq h)
  have h8' : 0x8000 ≤ a.toNat := by simpa [BitVec.le_def] using h8
  have hraw : ∀ (n : Nat) (w : Byte), rawPlace a = n → busRead (s.rawWrite n w) x = busRead s x := fun n w hn =>
    busRead_raw x rfl (rawRead_rawWrite_other s n _ w (by rw [← hn]; exact hpl))
  have hreg : a.toNat ≥ 0xFE00 → busRead (registerWrite a.toNat v s) x = busRead s x := by
    intro hh
    have hp := rawPlace_plain a (by omega)
    have n1 : a.toNat ≠ ioLyc := fun h => hlyc (BitVec.eq_of_toNat_eq h)
    have n2 : a.toNat ≠ ioDma := fun h => hdma (BitVec.eq_of_toNat_eq h)
    unfold registerWrite
    rw [if_neg n1, if_neg n2]
    split
    · exact hraw _ _ (by omega)
    split
    · exact hraw _ _ (by omega)
    split
    · split
      · exact hraw _ _ (by omega)
      · rfl
    split
    · rfl
    · exact hraw _ _ hp
  rcases regionOf_cases s.params a.toNat with c | c | c | c | c | c | c | c | c | c | c
  · omega
  · omega
  · rw [busWrite_region v c.2.2]; exact hraw _ _ (rawPlace_plain a (by omega))
  · rw [busWrite_region v c.2.2]
    show busRead (if s.ramEnabled then _ else s) x = _
    split
    · exact busRead_ramWrite s a x v c.2.2 hne
    · rfl
  · rw [busWrite_region v c.2.2]; exact hraw _ _ (rawPlace_plain a (by omega))
  · rw [busWrite_region v c.2.2]; exact hraw _ _ (rawPlace_echo a ⟨c.1, c.2.1⟩)
  · rw [busWrite_region v c.2.2]; exact hraw _ _ (rawPlace_plain a (by omega))
  · rw [busWrite_region v c.2.2]; rfl
  · rw [busWrite_region v c.2]; exact hraw _ _ (by rw [rawPlace_plain a (by omega), c.1])
  · rw [busWrite_region v c.2.2.2]; exact hreg (by omega)
  · rw [busWrite_region v c.2.2]; exact hreg (by omega)

/-! ### The OAM DMA -/

/-- The address of the DMA's source byte `k` (R102). -/
theorem dmaSource_toNat (v : Byte) (k : Nat) (hk : k < 256) :
    (wordOf 0 v + BitVec.ofNat 16 k).toNat = v.toNat * 256 + k := by
  have hv := v.isLt
  rw [BitVec.toNat_add, wordOf_toNat]
  simp
  omega

/-- What the DMA's copy leaves: the source bytes as the bus showed them before, and nothing else changed (R102). -/
theorem dmaCopy_reads (u : State) (v : Byte) (hu : u.rawWf = true) (k : Nat) (hk : k ≤ 0xA0) :
    (dmaCopy (wordOf 0 v) k u).rawWf = true ∧
    (∀ n, n < 0xFE00 ∨ 0xFE00 + k ≤ n → (dmaCopy (wordOf 0 v) k u).rawRead n = u.rawRead n) ∧
    (∀ i, i < k → (dmaCopy (wordOf 0 v) k u).rawRead (0xFE00 + i) = busRead u (wordOf 0 v + BitVec.ofNat 16 i)) := by
  induction k with
  | zero => exact ⟨hu, fun _ _ => rfl, fun i hi => absurd hi (by omega)⟩
  | succ k ih =>
    obtain ⟨i1, i2, i3⟩ := ih (by omega)
    simp only [dmaCopy]
    generalize hT : dmaCopy (wordOf 0 v) k u = T at *
    have hsrc : busRead T (wordOf 0 v + BitVec.ofNat 16 k) = busRead u (wordOf 0 v + BitVec.ofNat 16 k) := by
      have hv := v.isLt
      have hx := dmaSource_toNat v k (by omega)
      refine busRead_raw _ (by rw [← hT]; exact dmaCopy_eq _ _ _) (i2 _ ?_)
      by_cases hh : 0xE000 ≤ v.toNat * 256 + k ∧ v.toNat * 256 + k < 0xFE00
      · rw [rawPlace_echo _ (by rw [hx]; exact hh), hx]; omega
      · rw [rawPlace_plain _ (by rw [hx]; omega), hx]; omega
    refine ⟨rawWf_rawWrite _ _ _ (by omega) i1, ?_, ?_⟩
    · intro n hn
      rw [rawRead_rawWrite_other _ _ _ _ (by omega)]
      exact i2 n (by omega)
    · intro i hi
      by_cases e : i = k
      · subst e; rw [rawRead_rawWrite_same _ _ _ i1, hsrc]
      · rw [rawRead_rawWrite_other _ _ _ _ (by omega)]
        exact i3 i (by omega)

/-! ### What a meaning stores to -/

/-- From `s` to `t`, every address outside the homes of `ws` reads as before, if the stores to `ws` store one byte each. -/
def Stores (ws : List Word) (s t : State) : Prop :=
  (∀ w ∈ ws, storesOneByte w) → ∀ x, (∀ w ∈ ws, homeOf x ≠ homeOf w) → busRead t x = busRead s x

theorem Stores.trans {ws vs : List Word} {s t u : State} (h : Stores ws s t) (k : Stores vs t u) : Stores (ws ++ vs) s u := by
  intro h1 x h2
  rw [k (fun w hw => h1 w (List.mem_append_right _ hw)) x (fun w hw => h2 w (List.mem_append_right _ hw)),
    h (fun w hw => h1 w (List.mem_append_left _ hw)) x (fun w hw => h2 w (List.mem_append_left _ hw))]

/-- A change of CPU registers stores nothing. -/
theorem Stores.cpu {s t : State} (h : t = { s with
      a := t.a, f := t.f, b := t.b, c := t.c, d := t.d, e := t.e, h := t.h, l := t.l, sp := t.sp, pc := t.pc, ime := t.ime,
      imePend := t.imePend, imePendFresh := t.imePendFresh, halted := t.halted, stopped := t.stopped,
      savedP1 := t.savedP1, savedLcdc := t.savedLcdc, savedTac := t.savedTac, fault := t.fault, cycles := t.cycles }) :
    Stores [] s t := fun _ x _ => busRead_congr h x

/-- A CPU write stores to its address. -/
theorem Stores.busWrite (a : Word) (v : Byte) (s : State) : Stores [a] s (busWrite a v s) := fun h1 x h2 =>
  busRead_busWrite_other s a x v (h1 a (List.mem_singleton_self a)) (h2 a (List.mem_singleton_self a))

theorem Stores.push16 (v : Word) (s : State) : Stores (stackTop s) s (Machine.push16 v s) := by
  rw [push16_eq_moved]
  have h1 := (Stores.busWrite (s.sp - 1) (highByte v) s).trans (Stores.busWrite (s.sp - 2) (lowByte v) _)
  have h2 : ∀ u : State, Stores [] u (u.moved s.pc (s.sp - 2) s.cycles) := fun u => Stores.cpu rfl
  exact h1.trans (h2 _)

theorem Stores.setReg (s : State) (r : Reg8) (v : Byte) : Stores [] s (s.setReg r v) := by cases r <;> exact Stores.cpu rfl

theorem Stores.setPair (s : State) (p : Pair) (v : Word) : Stores [] s (s.setPair p v) := by cases p <;> exact Stores.cpu rfl

theorem Stores.setStackPair (s : State) (p : StackPair) (v : Word) : Stores [] s (s.setStackPair p v) := by
  cases p <;> exact Stores.cpu rfl

theorem Stores.setOperand (s : State) (o : Operand8) (v : Byte) :
    Stores (if o = .memHl then [s.hl] else []) s (s.setOperand o v) := by
  cases o with
  | reg r => exact Stores.setReg s r v
  | memHl => exact Stores.busWrite s.hl v s

theorem Stores.finish {ws : List Word} {s t u : State} (n : Nat) (h : Stores ws s t) (hf : Machine.finish n t = .next u) :
    Stores ws s u := by
  have hu : u = { t with cycles := n } := (Host.Outcome.next.inj hf).symm
  have hc : Stores [] t u := by rw [hu]; exact Stores.cpu rfl
  simpa only [List.append_nil] using h.trans hc

end Sys2Proof.Machine
end

