-- ==== Sys2Proof/Laws/Reset.lean ====
section
/-! SUPPORT. The state after reset is what `LoadCartridge` leaves with the decided parameters, the base image and no save; and
a loaded cartridge's storages are canonical when the image is. -/

namespace Sys2Proof.Machine

open Sys2Proof

/-- The base image of 95_test_vectors.md: 32 KiB of zero bytes. -/
def baseImage : Image := ⟨0x8000, []⟩

/-- `State.reset` is a load of the base image (R500). -/
theorem loadCartridge_base : loadCartridge Params.decided baseImage none [] = State.reset := by decide

theorem memoryWf_reset : State.reset.memoryWf = true := by decide

end Sys2Proof.Machine
end

