-- ==== Sys2Proof/Laws/Timer.lean ====
section
/-! SUPPORT. The laws of the divider and the timer: the fields they may write, their accumulators after an update, and that
they keep the storages canonical. -/

namespace Sys2Proof.Machine

open Sys2Proof

/-! ### The divider -/

@[simp] theorem divTick_divAcc (s : State) : (divTick s).divAcc = s.divAcc - 256 := rfl

theorem divTick_eq (s : State) : divTick s = { s with raw := (divTick s).raw, divAcc := (divTick s).divAcc } := rfl

theorem divTick_raw (s : State) : (divTick s).raw = (s.rawWrite ioDiv (s.rawRead ioDiv + 1)).raw := rfl

theorem rawRead_divTick_other (s : State) (x : Nat) (h : x ≠ ioDiv) : (divTick s).rawRead x = s.rawRead x :=
  (rawRead_congr _ _ (divTick_raw s) x).trans (rawRead_rawWrite_other s ioDiv x _ h)

theorem rawRead_div_divTick (s : State) (hw : s.rawWf = true) : (divTick s).rawRead ioDiv = s.rawRead ioDiv + 1 :=
  (rawRead_congr _ _ (divTick_raw s) ioDiv).trans (rawRead_rawWrite_same s ioDiv _ hw)

theorem rawWf_divTick (s : State) (hw : s.rawWf = true) : (divTick s).rawWf = true := by
  have h := rawWf_rawWrite s ioDiv (s.rawRead ioDiv + 1) (by decide) hw
  rw [State.rawWf, divTick_raw]
  exact h

theorem memoryWf_divTick (s : State) (h : s.memoryWf = true) : (divTick s).memoryWf = true :=
  (memoryWf_congr (s.rawWrite ioDiv (s.rawRead ioDiv + 1)) _ (divTick_raw s) rfl rfl rfl rfl).trans
    (memoryWf_rawWrite s ioDiv _ (by decide) h)

theorem divTicks_eq (k : Nat) (s : State) :
    divTicks k s = { s with raw := (divTicks k s).raw, divAcc := (divTicks k s).divAcc } := by
  induction k generalizing s with
  | zero => rfl
  | succ k ih =>
    simp only [divTicks]
    split
    · rw [ih]; rfl
    · rfl

/-- As many turns as the accumulator holds leave it below 256 (R420). -/
theorem divTicks_divAcc (k : Nat) (s : State) (h : s.divAcc / 256 = k) : (divTicks k s).divAcc = s.divAcc % 256 := by
  induction k generalizing s with
  | zero => simp only [divTicks]; omega
  | succ k ih =>
    simp only [divTicks]
    rw [if_pos (by omega), ih _ (by rw [divTick_divAcc]; omega), divTick_divAcc]
    omega

theorem rawRead_divTicks_other (k : Nat) (s : State) (x : Nat) (h : x ≠ ioDiv) :
    (divTicks k s).rawRead x = s.rawRead x := by
  induction k generalizing s with
  | zero => rfl
  | succ k ih =>
    simp only [divTicks]
    split
    · rw [ih, rawRead_divTick_other _ _ h]
    · rfl

theorem memoryWf_divTicks (k : Nat) (s : State) (h : s.memoryWf = true) : (divTicks k s).memoryWf = true := by
  induction k generalizing s with
  | zero => exact h
  | succ k ih =>
    simp only [divTicks]
    split
    · exact ih _ (memoryWf_divTick _ h)
    · exact h

/-- In a canonical `Raw`, the divider counts the turns (R420). -/
theorem rawRead_div_divTicks (k : Nat) (s : State) (hw : s.rawWf = true) (h : s.divAcc / 256 = k) :
    (divTicks k s).rawRead ioDiv = s.rawRead ioDiv + BitVec.ofNat 8 k := by
  induction k generalizing s with
  | zero => simp [divTicks]
  | succ k ih =>
    have hk : BitVec.ofNat 8 (k + 1) = 1 + BitVec.ofNat 8 k := by rw [Nat.add_comm, BitVec.ofNat_add]; rfl
    simp only [divTicks]
    rw [if_pos (by omega), ih _ (rawWf_divTick s hw) (by rw [divTick_divAcc]; omega), rawRead_div_divTick s hw, hk,
      BitVec.add_assoc]

theorem dividerUpdate_eq (c : Nat) (s : State) :
    dividerUpdate c s = { s with raw := (dividerUpdate c s).raw, divAcc := (dividerUpdate c s).divAcc } := by
  unfold dividerUpdate
  dsimp only
  rw [divTicks_eq]

@[simp] theorem dividerUpdate_params (c : Nat) (s : State) : (dividerUpdate c s).params = s.params := by rw [dividerUpdate_eq]
@[simp] theorem dividerUpdate_a (c : Nat) (s : State) : (dividerUpdate c s).a = s.a := by rw [dividerUpdate_eq]
@[simp] theorem dividerUpdate_f (c : Nat) (s : State) : (dividerUpdate c s).f = s.f := by rw [dividerUpdate_eq]
@[simp] theorem dividerUpdate_b (c : Nat) (s : State) : (dividerUpdate c s).b = s.b := by rw [dividerUpdate_eq]
@[simp] theorem dividerUpdate_c (c : Nat) (s : State) : (dividerUpdate c s).c = s.c := by rw [dividerUpdate_eq]
@[simp] theorem dividerUpdate_d (c : Nat) (s : State) : (dividerUpdate c s).d = s.d := by rw [dividerUpdate_eq]
@[simp] theorem dividerUpdate_e (c : Nat) (s : State) : (dividerUpdate c s).e = s.e := by rw [dividerUpdate_eq]
@[simp] theorem dividerUpdate_h (c : Nat) (s : State) : (dividerUpdate c s).h = s.h := by rw [dividerUpdate_eq]
@[simp] theorem dividerUpdate_l (c : Nat) (s : State) : (dividerUpdate c s).l = s.l := by rw [dividerUpdate_eq]
@[simp] theorem dividerUpdate_sp (c : Nat) (s : State) : (dividerUpdate c s).sp = s.sp := by rw [dividerUpdate_eq]
@[simp] theorem dividerUpdate_pc (c : Nat) (s : State) : (dividerUpdate c s).pc = s.pc := by rw [dividerUpdate_eq]
@[simp] theorem dividerUpdate_ime (c : Nat) (s : State) : (dividerUpdate c s).ime = s.ime := by rw [dividerUpdate_eq]
@[simp] theorem dividerUpdate_imePend (c : Nat) (s : State) : (dividerUpdate c s).imePend = s.imePend := by rw [dividerUpdate_eq]
@[simp] theorem dividerUpdate_imePendFresh (c : Nat) (s : State) : (dividerUpdate c s).imePendFresh = s.imePendFresh := by rw [dividerUpdate_eq]
@[simp] theorem dividerUpdate_halted (c : Nat) (s : State) : (dividerUpdate c s).halted = s.halted := by rw [dividerUpdate_eq]
@[simp] theorem dividerUpdate_stopped (c : Nat) (s : State) : (dividerUpdate c s).stopped = s.stopped := by rw [dividerUpdate_eq]
@[simp] theorem dividerUpdate_savedP1 (c : Nat) (s : State) : (dividerUpdate c s).savedP1 = s.savedP1 := by rw [dividerUpdate_eq]
@[simp] theorem dividerUpdate_savedLcdc (c : Nat) (s : State) : (dividerUpdate c s).savedLcdc = s.savedLcdc := by rw [dividerUpdate_eq]
@[simp] theorem dividerUpdate_savedTac (c : Nat) (s : State) : (dividerUpdate c s).savedTac = s.savedTac := by rw [dividerUpdate_eq]
@[simp] theorem dividerUpdate_fault (c : Nat) (s : State) : (dividerUpdate c s).fault = s.fault := by rw [dividerUpdate_eq]
@[simp] theorem dividerUpdate_romImage (c : Nat) (s : State) : (dividerUpdate c s).romImage = s.romImage := by rw [dividerUpdate_eq]
@[simp] theorem dividerUpdate_romLen (c : Nat) (s : State) : (dividerUpdate c s).romLen = s.romLen := by rw [dividerUpdate_eq]
@[simp] theorem dividerUpdate_ramBanks (c : Nat) (s : State) : (dividerUpdate c s).ramBanks = s.ramBanks := by rw [dividerUpdate_eq]
@[simp] theorem dividerUpdate_family (c : Nat) (s : State) : (dividerUpdate c s).family = s.family := by rw [dividerUpdate_eq]
@[simp] theorem dividerUpdate_hasBattery (c : Nat) (s : State) : (dividerUpdate c s).hasBattery = s.hasBattery := by rw [dividerUpdate_eq]
@[simp] theorem dividerUpdate_romBankCount (c : Nat) (s : State) : (dividerUpdate c s).romBankCount = s.romBankCount := by rw [dividerUpdate_eq]
@[simp] theorem dividerUpdate_romBank (c : Nat) (s : State) : (dividerUpdate c s).romBank = s.romBank := by rw [dividerUpdate_eq]
@[simp] theorem dividerUpdate_ramBank (c : Nat) (s : State) : (dividerUpdate c s).ramBank = s.ramBank := by rw [dividerUpdate_eq]
@[simp] theorem dividerUpdate_ramEnabled (c : Nat) (s : State) : (dividerUpdate c s).ramEnabled = s.ramEnabled := by rw [dividerUpdate_eq]
@[simp] theorem dividerUpdate_romBankingMode (c : Nat) (s : State) : (dividerUpdate c s).romBankingMode = s.romBankingMode := by rw [dividerUpdate_eq]
@[simp] theorem dividerUpdate_timaAcc (c : Nat) (s : State) : (dividerUpdate c s).timaAcc = s.timaAcc := by rw [dividerUpdate_eq]
@[simp] theorem dividerUpdate_lineAcc (c : Nat) (s : State) : (dividerUpdate c s).lineAcc = s.lineAcc := by rw [dividerUpdate_eq]
@[simp] theorem dividerUpdate_oamLatch (c : Nat) (s : State) : (dividerUpdate c s).oamLatch = s.oamLatch := by rw [dividerUpdate_eq]
@[simp] theorem dividerUpdate_hblankLatch (c : Nat) (s : State) : (dividerUpdate c s).hblankLatch = s.hblankLatch := by rw [dividerUpdate_eq]
@[simp] theorem dividerUpdate_vblankLatch (c : Nat) (s : State) : (dividerUpdate c s).vblankLatch = s.vblankLatch := by rw [dividerUpdate_eq]
@[simp] theorem dividerUpdate_fb (c : Nat) (s : State) : (dividerUpdate c s).fb = s.fb := by rw [dividerUpdate_eq]
@[simp] theorem dividerUpdate_pressed (c : Nat) (s : State) : (dividerUpdate c s).pressed = s.pressed := by rw [dividerUpdate_eq]
@[simp] theorem dividerUpdate_buttonSchedule (c : Nat) (s : State) : (dividerUpdate c s).buttonSchedule = s.buttonSchedule := by rw [dividerUpdate_eq]
@[simp] theorem dividerUpdate_presented (c : Nat) (s : State) : (dividerUpdate c s).presented = s.presented := by rw [dividerUpdate_eq]
@[simp] theorem dividerUpdate_cycles (c : Nat) (s : State) : (dividerUpdate c s).cycles = s.cycles := by rw [dividerUpdate_eq]

@[simp] theorem dividerUpdate_divAcc (c : Nat) (s : State) : (dividerUpdate c s).divAcc = (s.divAcc + c) % 256 :=
  divTicks_divAcc _ _ rfl

theorem rawRead_dividerUpdate_other (c : Nat) (s : State) (x : Nat) (h : x ≠ ioDiv) :
    (dividerUpdate c s).rawRead x = s.rawRead x := rawRead_divTicks_other _ _ x h

theorem memoryWf_dividerUpdate (c : Nat) (s : State) (h : s.memoryWf = true) : (dividerUpdate c s).memoryWf = true :=
  memoryWf_divTicks _ _ h

/-! ### TIMA -/

theorem timaPeriod_pos (tac : Byte) : 0 < timaPeriod tac := by
  unfold timaPeriod
  split <;> decide

theorem timaTick_eq (s : State) : timaTick s = { s with raw := (timaTick s).raw } := by
  unfold timaTick
  split <;> rfl

@[simp] theorem timaTick_params (s : State) : (timaTick s).params = s.params := by rw [timaTick_eq]
@[simp] theorem timaTick_a (s : State) : (timaTick s).a = s.a := by rw [timaTick_eq]
@[simp] theorem timaTick_f (s : State) : (timaTick s).f = s.f := by rw [timaTick_eq]
@[simp] theorem timaTick_b (s : State) : (timaTick s).b = s.b := by rw [timaTick_eq]
@[simp] theorem timaTick_c (s : State) : (timaTick s).c = s.c := by rw [timaTick_eq]
@[simp] theorem timaTick_d (s : State) : (timaTick s).d = s.d := by rw [timaTick_eq]
@[simp] theorem timaTick_e (s : State) : (timaTick s).e = s.e := by rw [timaTick_eq]
@[simp] theorem timaTick_h (s : State) : (timaTick s).h = s.h := by rw [timaTick_eq]
@[simp] theorem timaTick_l (s : State) : (timaTick s).l = s.l := by rw [timaTick_eq]
@[simp] theorem timaTick_sp (s : State) : (timaTick s).sp = s.sp := by rw [timaTick_eq]
@[simp] theorem timaTick_pc (s : State) : (timaTick s).pc = s.pc := by rw [timaTick_eq]
@[simp] theorem timaTick_ime (s : State) : (timaTick s).ime = s.ime := by rw [timaTick_eq]
@[simp] theorem timaTick_imePend (s : State) : (timaTick s).imePend = s.imePend := by rw [timaTick_eq]
@[simp] theorem timaTick_imePendFresh (s : State) : (timaTick s).imePendFresh = s.imePendFresh := by rw [timaTick_eq]
@[simp] theorem timaTick_halted (s : State) : (timaTick s).halted = s.halted := by rw [timaTick_eq]
@[simp] theorem timaTick_stopped (s : State) : (timaTick s).stopped = s.stopped := by rw [timaTick_eq]
@[simp] theorem timaTick_savedP1 (s : State) : (timaTick s).savedP1 = s.savedP1 := by rw [timaTick_eq]
@[simp] theorem timaTick_savedLcdc (s : State) : (timaTick s).savedLcdc = s.savedLcdc := by rw [timaTick_eq]
@[simp] theorem timaTick_savedTac (s : State) : (timaTick s).savedTac = s.savedTac := by rw [timaTick_eq]
@[simp] theorem timaTick_fault (s : State) : (timaTick s).fault = s.fault := by rw [timaTick_eq]
@[simp] theorem timaTick_romImage (s : State) : (timaTick s).romImage = s.romImage := by rw [timaTick_eq]
@[simp] theorem timaTick_romLen (s : State) : (timaTick s).romLen = s.romLen := by rw [timaTick_eq]
@[simp] theorem timaTick_ramBanks (s : State) : (timaTick s).ramBanks = s.ramBanks := by rw [timaTick_eq]
@[simp] theorem timaTick_family (s : State) : (timaTick s).family = s.family := by rw [timaTick_eq]
@[simp] theorem timaTick_hasBattery (s : State) : (timaTick s).hasBattery = s.hasBattery := by rw [timaTick_eq]
@[simp] theorem timaTick_romBankCount (s : State) : (timaTick s).romBankCount = s.romBankCount := by rw [timaTick_eq]
@[simp] theorem timaTick_romBank (s : State) : (timaTick s).romBank = s.romBank := by rw [timaTick_eq]
@[simp] theorem timaTick_ramBank (s : State) : (timaTick s).ramBank = s.ramBank := by rw [timaTick_eq]
@[simp] theorem timaTick_ramEnabled (s : State) : (timaTick s).ramEnabled = s.ramEnabled := by rw [timaTick_eq]
@[simp] theorem timaTick_romBankingMode (s : State) : (timaTick s).romBankingMode = s.romBankingMode := by rw [timaTick_eq]
@[simp] theorem timaTick_divAcc (s : State) : (timaTick s).divAcc = s.divAcc := by rw [timaTick_eq]
@[simp] theorem timaTick_timaAcc (s : State) : (timaTick s).timaAcc = s.timaAcc := by rw [timaTick_eq]
@[simp] theorem timaTick_lineAcc (s : State) : (timaTick s).lineAcc = s.lineAcc := by rw [timaTick_eq]
@[simp] theorem timaTick_oamLatch (s : State) : (timaTick s).oamLatch = s.oamLatch := by rw [timaTick_eq]
@[simp] theorem timaTick_hblankLatch (s : State) : (timaTick s).hblankLatch = s.hblankLatch := by rw [timaTick_eq]
@[simp] theorem timaTick_vblankLatch (s : State) : (timaTick s).vblankLatch = s.vblankLatch := by rw [timaTick_eq]
@[simp] theorem timaTick_fb (s : State) : (timaTick s).fb = s.fb := by rw [timaTick_eq]
@[simp] theorem timaTick_pressed (s : State) : (timaTick s).pressed = s.pressed := by rw [timaTick_eq]
@[simp] theorem timaTick_buttonSchedule (s : State) : (timaTick s).buttonSchedule = s.buttonSchedule := by rw [timaTick_eq]
@[simp] theorem timaTick_presented (s : State) : (timaTick s).presented = s.presented := by rw [timaTick_eq]
@[simp] theorem timaTick_cycles (s : State) : (timaTick s).cycles = s.cycles := by rw [timaTick_eq]

theorem rawRead_timaTick_other (s : State) (x : Nat) (h1 : x ≠ ioTima) (h2 : x ≠ ioIf) :
    (timaTick s).rawRead x = s.rawRead x := by
  unfold timaTick
  split
  · rw [rawRead_requestInterrupt_other _ _ _ h2, rawRead_rawWrite_other _ _ _ _ h1]
  · rw [rawRead_rawWrite_other _ _ _ _ h1]

theorem memoryWf_timaTick (s : State) (h : s.memoryWf = true) : (timaTick s).memoryWf = true := by
  unfold timaTick
  split
  · exact memoryWf_requestInterrupt _ _ (memoryWf_rawWrite _ _ _ (by decide) h)
  · exact memoryWf_rawWrite _ _ _ (by decide) h

theorem timaTicks_eq (p k : Nat) (s : State) :
    timaTicks p k s = { s with raw := (timaTicks p k s).raw, timaAcc := (timaTicks p k s).timaAcc } := by
  induction k generalizing s with
  | zero => rfl
  | succ k ih =>
    simp only [timaTicks]
    split
    · rw [ih]
      simp only [timaTick_params, timaTick_a, timaTick_f, timaTick_b, timaTick_c, timaTick_d, timaTick_e, timaTick_h,
        timaTick_l, timaTick_sp, timaTick_pc, timaTick_ime, timaTick_imePend, timaTick_imePendFresh, timaTick_halted,
        timaTick_stopped, timaTick_savedP1, timaTick_savedLcdc, timaTick_savedTac, timaTick_fault, timaTick_romImage,
        timaTick_romLen, timaTick_ramBanks, timaTick_family, timaTick_hasBattery, timaTick_romBankCount, timaTick_romBank,
        timaTick_ramBank, timaTick_ramEnabled, timaTick_romBankingMode, timaTick_divAcc, timaTick_lineAcc,
        timaTick_oamLatch, timaTick_hblankLatch, timaTick_vblankLatch, timaTick_fb, timaTick_pressed,
        timaTick_buttonSchedule, timaTick_presented, timaTick_cycles]
    · rfl

/-- As many turns as the accumulator holds leave it below the period (R421). -/
theorem timaTicks_timaAcc (p k : Nat) (s : State) (hp : 0 < p) (h : s.timaAcc / p = k) :
    (timaTicks p k s).timaAcc = s.timaAcc % p := by
  induction k generalizing s with
  | zero =>
    simp only [timaTicks]
    rw [Nat.mod_eq_of_lt ((Nat.div_eq_zero_iff_lt hp).mp h)]
  | succ k ih =>
    have hle : p ≤ s.timaAcc := by
      rcases Nat.lt_or_ge s.timaAcc p with hlt | hge
      · rw [Nat.div_eq_of_lt hlt] at h; omega
      · exact hge
    have hd : (s.timaAcc - p) / p = k := by rw [Nat.div_eq_sub_div hp hle] at h; omega
    simp only [timaTicks]
    rw [if_pos hle, ih _ (by rw [timaTick_timaAcc]; exact hd), timaTick_timaAcc]
    exact (Nat.mod_eq_sub_mod hle).symm

theorem rawRead_timaTicks_other (p k : Nat) (s : State) (x : Nat) (h1 : x ≠ ioTima) (h2 : x ≠ ioIf) :
    (timaTicks p k s).rawRead x = s.rawRead x := by
  induction k generalizing s with
  | zero => rfl
  | succ k ih =>
    simp only [timaTicks]
    split
    · exact (ih _).trans (rawRead_timaTick_other { s with timaAcc := s.timaAcc - p } x h1 h2)
    · rfl

theorem memoryWf_timaTicks (p k : Nat) (s : State) (h : s.memoryWf = true) : (timaTicks p k s).memoryWf = true := by
  induction k generalizing s with
  | zero => exact h
  | succ k ih =>
    simp only [timaTicks]
    split
    · exact ih _ (memoryWf_timaTick _ h)
    · exact h

theorem timaUpdate_eq (c : Nat) (s : State) :
    timaUpdate c s = { s with raw := (timaUpdate c s).raw, timaAcc := (timaUpdate c s).timaAcc } := by
  unfold timaUpdate
  dsimp only
  split
  · rw [timaTicks_eq]
  · rfl

@[simp] theorem timaUpdate_params (c : Nat) (s : State) : (timaUpdate c s).params = s.params := by rw [timaUpdate_eq]
@[simp] theorem timaUpdate_a (c : Nat) (s : State) : (timaUpdate c s).a = s.a := by rw [timaUpdate_eq]
@[simp] theorem timaUpdate_f (c : Nat) (s : State) : (timaUpdate c s).f = s.f := by rw [timaUpdate_eq]
@[simp] theorem timaUpdate_b (c : Nat) (s : State) : (timaUpdate c s).b = s.b := by rw [timaUpdate_eq]
@[simp] theorem timaUpdate_c (c : Nat) (s : State) : (timaUpdate c s).c = s.c := by rw [timaUpdate_eq]
@[simp] theorem timaUpdate_d (c : Nat) (s : State) : (timaUpdate c s).d = s.d := by rw [timaUpdate_eq]
@[simp] theorem timaUpdate_e (c : Nat) (s : State) : (timaUpdate c s).e = s.e := by rw [timaUpdate_eq]
@[simp] theorem timaUpdate_h (c : Nat) (s : State) : (timaUpdate c s).h = s.h := by rw [timaUpdate_eq]
@[simp] theorem timaUpdate_l (c : Nat) (s : State) : (timaUpdate c s).l = s.l := by rw [timaUpdate_eq]
@[simp] theorem timaUpdate_sp (c : Nat) (s : State) : (timaUpdate c s).sp = s.sp := by rw [timaUpdate_eq]
@[simp] theorem timaUpdate_pc (c : Nat) (s : State) : (timaUpdate c s).pc = s.pc := by rw [timaUpdate_eq]
@[simp] theorem timaUpdate_ime (c : Nat) (s : State) : (timaUpdate c s).ime = s.ime := by rw [timaUpdate_eq]
@[simp] theorem timaUpdate_imePend (c : Nat) (s : State) : (timaUpdate c s).imePend = s.imePend := by rw [timaUpdate_eq]
@[simp] theorem timaUpdate_imePendFresh (c : Nat) (s : State) : (timaUpdate c s).imePendFresh = s.imePendFresh := by rw [timaUpdate_eq]
@[simp] theorem timaUpdate_halted (c : Nat) (s : State) : (timaUpdate c s).halted = s.halted := by rw [timaUpdate_eq]
@[simp] theorem timaUpdate_stopped (c : Nat) (s : State) : (timaUpdate c s).stopped = s.stopped := by rw [timaUpdate_eq]
@[simp] theorem timaUpdate_savedP1 (c : Nat) (s : State) : (timaUpdate c s).savedP1 = s.savedP1 := by rw [timaUpdate_eq]
@[simp] theorem timaUpdate_savedLcdc (c : Nat) (s : State) : (timaUpdate c s).savedLcdc = s.savedLcdc := by rw [timaUpdate_eq]
@[simp] theorem timaUpdate_savedTac (c : Nat) (s : State) : (timaUpdate c s).savedTac = s.savedTac := by rw [timaUpdate_eq]
@[simp] theorem timaUpdate_fault (c : Nat) (s : State) : (timaUpdate c s).fault = s.fault := by rw [timaUpdate_eq]
@[simp] theorem timaUpdate_romImage (c : Nat) (s : State) : (timaUpdate c s).romImage = s.romImage := by rw [timaUpdate_eq]
@[simp] theorem timaUpdate_romLen (c : Nat) (s : State) : (timaUpdate c s).romLen = s.romLen := by rw [timaUpdate_eq]
@[simp] theorem timaUpdate_ramBanks (c : Nat) (s : State) : (timaUpdate c s).ramBanks = s.ramBanks := by rw [timaUpdate_eq]
@[simp] theorem timaUpdate_family (c : Nat) (s : State) : (timaUpdate c s).family = s.family := by rw [timaUpdate_eq]
@[simp] theorem timaUpdate_hasBattery (c : Nat) (s : State) : (timaUpdate c s).hasBattery = s.hasBattery := by rw [timaUpdate_eq]
@[simp] theorem timaUpdate_romBankCount (c : Nat) (s : State) : (timaUpdate c s).romBankCount = s.romBankCount := by rw [timaUpdate_eq]
@[simp] theorem timaUpdate_romBank (c : Nat) (s : State) : (timaUpdate c s).romBank = s.romBank := by rw [timaUpdate_eq]
@[simp] theorem timaUpdate_ramBank (c : Nat) (s : State) : (timaUpdate c s).ramBank = s.ramBank := by rw [timaUpdate_eq]
@[simp] theorem timaUpdate_ramEnabled (c : Nat) (s : State) : (timaUpdate c s).ramEnabled = s.ramEnabled := by rw [timaUpdate_eq]
@[simp] theorem timaUpdate_romBankingMode (c : Nat) (s : State) : (timaUpdate c s).romBankingMode = s.romBankingMode := by rw [timaUpdate_eq]
@[simp] theorem timaUpdate_divAcc (c : Nat) (s : State) : (timaUpdate c s).divAcc = s.divAcc := by rw [timaUpdate_eq]
@[simp] theorem timaUpdate_lineAcc (c : Nat) (s : State) : (timaUpdate c s).lineAcc = s.lineAcc := by rw [timaUpdate_eq]
@[simp] theorem timaUpdate_oamLatch (c : Nat) (s : State) : (timaUpdate c s).oamLatch = s.oamLatch := by rw [timaUpdate_eq]
@[simp] theorem timaUpdate_hblankLatch (c : Nat) (s : State) : (timaUpdate c s).hblankLatch = s.hblankLatch := by rw [timaUpdate_eq]
@[simp] theorem timaUpdate_vblankLatch (c : Nat) (s : State) : (timaUpdate c s).vblankLatch = s.vblankLatch := by rw [timaUpdate_eq]
@[simp] theorem timaUpdate_fb (c : Nat) (s : State) : (timaUpdate c s).fb = s.fb := by rw [timaUpdate_eq]
@[simp] theorem timaUpdate_pressed (c : Nat) (s : State) : (timaUpdate c s).pressed = s.pressed := by rw [timaUpdate_eq]
@[simp] theorem timaUpdate_buttonSchedule (c : Nat) (s : State) : (timaUpdate c s).buttonSchedule = s.buttonSchedule := by rw [timaUpdate_eq]
@[simp] theorem timaUpdate_presented (c : Nat) (s : State) : (timaUpdate c s).presented = s.presented := by rw [timaUpdate_eq]
@[simp] theorem timaUpdate_cycles (c : Nat) (s : State) : (timaUpdate c s).cycles = s.cycles := by rw [timaUpdate_eq]

theorem rawRead_timaUpdate_other (c : Nat) (s : State) (x : Nat) (h1 : x ≠ ioTima) (h2 : x ≠ ioIf) :
    (timaUpdate c s).rawRead x = s.rawRead x := by
  unfold timaUpdate
  dsimp only
  split
  · exact rawRead_timaTicks_other _ _ { s with timaAcc := s.timaAcc + c } x h1 h2
  · rfl

theorem memoryWf_timaUpdate (c : Nat) (s : State) (h : s.memoryWf = true) : (timaUpdate c s).memoryWf = true := by
  unfold timaUpdate
  dsimp only
  split
  · exact memoryWf_timaTicks _ _ _ h
  · exact h

/-! ### The timer update -/

theorem timerUpdate_eq (c : Nat) (s : State) :
    timerUpdate c s =
      { s with
        raw := (timerUpdate c s).raw, divAcc := (timerUpdate c s).divAcc, timaAcc := (timerUpdate c s).timaAcc } := by
  unfold timerUpdate
  rw [timaUpdate_eq, dividerUpdate_eq]

@[simp] theorem timerUpdate_params (c : Nat) (s : State) : (timerUpdate c s).params = s.params := by rw [timerUpdate_eq]
@[simp] theorem timerUpdate_a (c : Nat) (s : State) : (timerUpdate c s).a = s.a := by rw [timerUpdate_eq]
@[simp] theorem timerUpdate_f (c : Nat) (s : State) : (timerUpdate c s).f = s.f := by rw [timerUpdate_eq]
@[simp] theorem timerUpdate_b (c : Nat) (s : State) : (timerUpdate c s).b = s.b := by rw [timerUpdate_eq]
@[simp] theorem timerUpdate_c (c : Nat) (s : State) : (timerUpdate c s).c = s.c := by rw [timerUpdate_eq]
@[simp] theorem timerUpdate_d (c : Nat) (s : State) : (timerUpdate c s).d = s.d := by rw [timerUpdate_eq]
@[simp] theorem timerUpdate_e (c : Nat) (s : State) : (timerUpdate c s).e = s.e := by rw [timerUpdate_eq]
@[simp] theorem timerUpdate_h (c : Nat) (s : State) : (timerUpdate c s).h = s.h := by rw [timerUpdate_eq]
@[simp] theorem timerUpdate_l (c : Nat) (s : State) : (timerUpdate c s).l = s.l := by rw [timerUpdate_eq]
@[simp] theorem timerUpdate_sp (c : Nat) (s : State) : (timerUpdate c s).sp = s.sp := by rw [timerUpdate_eq]
@[simp] theorem timerUpdate_pc (c : Nat) (s : State) : (timerUpdate c s).pc = s.pc := by rw [timerUpdate_eq]
@[simp] theorem timerUpdate_ime (c : Nat) (s : State) : (timerUpdate c s).ime = s.ime := by rw [timerUpdate_eq]
@[simp] theorem timerUpdate_imePend (c : Nat) (s : State) : (timerUpdate c s).imePend = s.imePend := by rw [timerUpdate_eq]
@[simp] theorem timerUpdate_imePendFresh (c : Nat) (s : State) : (timerUpdate c s).imePendFresh = s.imePendFresh := by rw [timerUpdate_eq]
@[simp] theorem timerUpdate_halted (c : Nat) (s : State) : (timerUpdate c s).halted = s.halted := by rw [timerUpdate_eq]
@[simp] theorem timerUpdate_stopped (c : Nat) (s : State) : (timerUpdate c s).stopped = s.stopped := by rw [timerUpdate_eq]
@[simp] theorem timerUpdate_savedP1 (c : Nat) (s : State) : (timerUpdate c s).savedP1 = s.savedP1 := by rw [timerUpdate_eq]
@[simp] theorem timerUpdate_savedLcdc (c : Nat) (s : State) : (timerUpdate c s).savedLcdc = s.savedLcdc := by rw [timerUpdate_eq]
@[simp] theorem timerUpdate_savedTac (c : Nat) (s : State) : (timerUpdate c s).savedTac = s.savedTac := by rw [timerUpdate_eq]
@[simp] theorem timerUpdate_fault (c : Nat) (s : State) : (timerUpdate c s).fault = s.fault := by rw [timerUpdate_eq]
@[simp] theorem timerUpdate_romImage (c : Nat) (s : State) : (timerUpdate c s).romImage = s.romImage := by rw [timerUpdate_eq]
@[simp] theorem timerUpdate_romLen (c : Nat) (s : State) : (timerUpdate c s).romLen = s.romLen := by rw [timerUpdate_eq]
@[simp] theorem timerUpdate_ramBanks (c : Nat) (s : State) : (timerUpdate c s).ramBanks = s.ramBanks := by rw [timerUpdate_eq]
@[simp] theorem timerUpdate_family (c : Nat) (s : State) : (timerUpdate c s).family = s.family := by rw [timerUpdate_eq]
@[simp] theorem timerUpdate_hasBattery (c : Nat) (s : State) : (timerUpdate c s).hasBattery = s.hasBattery := by rw [timerUpdate_eq]
@[simp] theorem timerUpdate_romBankCount (c : Nat) (s : State) : (timerUpdate c s).romBankCount = s.romBankCount := by rw [timerUpdate_eq]
@[simp] theorem timerUpdate_romBank (c : Nat) (s : State) : (timerUpdate c s).romBank = s.romBank := by rw [timerUpdate_eq]
@[simp] theorem timerUpdate_ramBank (c : Nat) (s : State) : (timerUpdate c s).ramBank = s.ramBank := by rw [timerUpdate_eq]
@[simp] theorem timerUpdate_ramEnabled (c : Nat) (s : State) : (timerUpdate c s).ramEnabled = s.ramEnabled := by rw [timerUpdate_eq]
@[simp] theorem timerUpdate_romBankingMode (c : Nat) (s : State) : (timerUpdate c s).romBankingMode = s.romBankingMode := by rw [timerUpdate_eq]
@[simp] theorem timerUpdate_lineAcc (c : Nat) (s : State) : (timerUpdate c s).lineAcc = s.lineAcc := by rw [timerUpdate_eq]
@[simp] theorem timerUpdate_oamLatch (c : Nat) (s : State) : (timerUpdate c s).oamLatch = s.oamLatch := by rw [timerUpdate_eq]
@[simp] theorem timerUpdate_hblankLatch (c : Nat) (s : State) : (timerUpdate c s).hblankLatch = s.hblankLatch := by rw [timerUpdate_eq]
@[simp] theorem timerUpdate_vblankLatch (c : Nat) (s : State) : (timerUpdate c s).vblankLatch = s.vblankLatch := by rw [timerUpdate_eq]
@[simp] theorem timerUpdate_fb (c : Nat) (s : State) : (timerUpdate c s).fb = s.fb := by rw [timerUpdate_eq]
@[simp] theorem timerUpdate_pressed (c : Nat) (s : State) : (timerUpdate c s).pressed = s.pressed := by rw [timerUpdate_eq]
@[simp] theorem timerUpdate_buttonSchedule (c : Nat) (s : State) : (timerUpdate c s).buttonSchedule = s.buttonSchedule := by rw [timerUpdate_eq]
@[simp] theorem timerUpdate_presented (c : Nat) (s : State) : (timerUpdate c s).presented = s.presented := by rw [timerUpdate_eq]
@[simp] theorem timerUpdate_cycles (c : Nat) (s : State) : (timerUpdate c s).cycles = s.cycles := by rw [timerUpdate_eq]

@[simp] theorem timerUpdate_divAcc (c : Nat) (s : State) : (timerUpdate c s).divAcc = (s.divAcc + c) % 256 := by
  unfold timerUpdate
  rw [timaUpdate_divAcc, dividerUpdate_divAcc]

/-- The timer writes DIV, TIMA and IF only. -/
theorem rawRead_timerUpdate_other (c : Nat) (s : State) (x : Nat) (h0 : x ≠ ioDiv) (h1 : x ≠ ioTima) (h2 : x ≠ ioIf) :
    (timerUpdate c s).rawRead x = s.rawRead x := by
  unfold timerUpdate
  rw [rawRead_timaUpdate_other _ _ _ h1 h2, rawRead_dividerUpdate_other _ _ _ h0]

theorem memoryWf_timerUpdate (c : Nat) (s : State) (h : s.memoryWf = true) : (timerUpdate c s).memoryWf = true :=
  memoryWf_timaUpdate _ _ (memoryWf_dividerUpdate _ _ h)

end Sys2Proof.Machine
end

