-- ==== Sys2Proof/Laws/Video.lean ====
section
/-! SUPPORT. The laws of the video: a rendered row has 160 shades, the fields each step of the sequencer may write, LY and the
line accumulator after it, and that the storages stay canonical. -/

namespace Sys2Proof.Machine

open Sys2Proof

/-! ### The rasterizer -/

theorem length_backgroundLine (s : State) (ly : Nat) : (backgroundLine s ly).length = 160 := by
  unfold backgroundLine
  split
  · rw [List.length_map, List.length_range]
  · rw [List.length_replicate]

theorem length_backgroundShades (s : State) (bg : List Shade) (h : bg.length = 160) :
    (backgroundShades s bg).length = 160 := by
  unfold backgroundShades
  split
  · rw [List.length_map, h]
  · rw [List.length_replicate]

theorem length_drawSpritePixel (s : State) (ly : Nat) (bg : List Shade) (p : Sprite) (row : List Shade) (pix : Nat) :
    (drawSpritePixel s ly bg p row pix).length = row.length := by
  unfold drawSpritePixel
  dsimp only
  repeat' split
  all_goals first | rfl | exact List.length_set

theorem length_foldl {α β : Type} (f : List α → β → List α) (hf : ∀ row x, (f row x).length = row.length) (xs : List β)
    (row : List α) : (xs.foldl f row).length = row.length := by
  induction xs generalizing row with
  | nil => rfl
  | cons x xs ih => rw [List.foldl_cons, ih, hf]

theorem length_drawSprite (s : State) (ly : Nat) (bg row : List Shade) (p : Sprite) :
    (drawSprite s ly bg row p).length = row.length :=
  length_foldl _ (length_drawSpritePixel s ly bg p) _ _

/-- A rendered row has 160 shades (R450). -/
theorem length_renderedRow (s : State) (ly : Nat) : (renderedRow s ly).length = 160 := by
  unfold renderedRow
  dsimp only
  rw [length_foldl _ (length_drawSprite s ly _), length_backgroundShades _ _ (length_backgroundLine s ly)]

theorem memoryWf_renderLine (ly : Nat) (s : State) (hly : ly < 144) (h : s.memoryWf = true) :
    (renderLine ly s).memoryWf = true := by
  obtain ⟨h1, h2, h3, h4, h5⟩ := (memoryWf_iff s).mp h
  refine (memoryWf_iff _).mpr ⟨h1, h2, h3, Memory.wf_write _ _ _ _ _ hly h4, fun row hrow => ?_⟩
  rcases Memory.mem_write_entry _ _ _ _ _ hrow with rfl | hrow
  · exact length_renderedRow s ly
  · exact h5 row hrow

/-! ### The line advance (R443) -/

theorem nextLine_le (ly : Byte) : nextLine ly ≤ 153 := by
  unfold nextLine
  split <;> omega

theorem clearLatches_eq (s : State) : clearLatches s =
    { s with oamLatch := false, hblankLatch := false, vblankLatch := (clearLatches s).vblankLatch } := rfl

@[simp] theorem clearLatches_params (s : State) : (clearLatches s).params = s.params := by rw [clearLatches_eq]
@[simp] theorem clearLatches_a (s : State) : (clearLatches s).a = s.a := by rw [clearLatches_eq]
@[simp] theorem clearLatches_f (s : State) : (clearLatches s).f = s.f := by rw [clearLatches_eq]
@[simp] theorem clearLatches_b (s : State) : (clearLatches s).b = s.b := by rw [clearLatches_eq]
@[simp] theorem clearLatches_c (s : State) : (clearLatches s).c = s.c := by rw [clearLatches_eq]
@[simp] theorem clearLatches_d (s : State) : (clearLatches s).d = s.d := by rw [clearLatches_eq]
@[simp] theorem clearLatches_e (s : State) : (clearLatches s).e = s.e := by rw [clearLatches_eq]
@[simp] theorem clearLatches_h (s : State) : (clearLatches s).h = s.h := by rw [clearLatches_eq]
@[simp] theorem clearLatches_l (s : State) : (clearLatches s).l = s.l := by rw [clearLatches_eq]
@[simp] theorem clearLatches_sp (s : State) : (clearLatches s).sp = s.sp := by rw [clearLatches_eq]
@[simp] theorem clearLatches_pc (s : State) : (clearLatches s).pc = s.pc := by rw [clearLatches_eq]
@[simp] theorem clearLatches_ime (s : State) : (clearLatches s).ime = s.ime := by rw [clearLatches_eq]
@[simp] theorem clearLatches_imePend (s : State) : (clearLatches s).imePend = s.imePend := by rw [clearLatches_eq]
@[simp] theorem clearLatches_imePendFresh (s : State) : (clearLatches s).imePendFresh = s.imePendFresh := by rw [clearLatches_eq]
@[simp] theorem clearLatches_halted (s : State) : (clearLatches s).halted = s.halted := by rw [clearLatches_eq]
@[simp] theorem clearLatches_stopped (s : State) : (clearLatches s).stopped = s.stopped := by rw [clearLatches_eq]
@[simp] theorem clearLatches_savedP1 (s : State) : (clearLatches s).savedP1 = s.savedP1 := by rw [clearLatches_eq]
@[simp] theorem clearLatches_savedLcdc (s : State) : (clearLatches s).savedLcdc = s.savedLcdc := by rw [clearLatches_eq]
@[simp] theorem clearLatches_savedTac (s : State) : (clearLatches s).savedTac = s.savedTac := by rw [clearLatches_eq]
@[simp] theorem clearLatches_fault (s : State) : (clearLatches s).fault = s.fault := by rw [clearLatches_eq]
@[simp] theorem clearLatches_raw (s : State) : (clearLatches s).raw = s.raw := by rw [clearLatches_eq]
@[simp] theorem clearLatches_romImage (s : State) : (clearLatches s).romImage = s.romImage := by rw [clearLatches_eq]
@[simp] theorem clearLatches_romLen (s : State) : (clearLatches s).romLen = s.romLen := by rw [clearLatches_eq]
@[simp] theorem clearLatches_ramBanks (s : State) : (clearLatches s).ramBanks = s.ramBanks := by rw [clearLatches_eq]
@[simp] theorem clearLatches_family (s : State) : (clearLatches s).family = s.family := by rw [clearLatches_eq]
@[simp] theorem clearLatches_hasBattery (s : State) : (clearLatches s).hasBattery = s.hasBattery := by rw [clearLatches_eq]
@[simp] theorem clearLatches_romBankCount (s : State) : (clearLatches s).romBankCount = s.romBankCount := by rw [clearLatches_eq]
@[simp] theorem clearLatches_romBank (s : State) : (clearLatches s).romBank = s.romBank := by rw [clearLatches_eq]
@[simp] theorem clearLatches_ramBank (s : State) : (clearLatches s).ramBank = s.ramBank := by rw [clearLatches_eq]
@[simp] theorem clearLatches_ramEnabled (s : State) : (clearLatches s).ramEnabled = s.ramEnabled := by rw [clearLatches_eq]
@[simp] theorem clearLatches_romBankingMode (s : State) : (clearLatches s).romBankingMode = s.romBankingMode := by rw [clearLatches_eq]
@[simp] theorem clearLatches_divAcc (s : State) : (clearLatches s).divAcc = s.divAcc := by rw [clearLatches_eq]
@[simp] theorem clearLatches_timaAcc (s : State) : (clearLatches s).timaAcc = s.timaAcc := by rw [clearLatches_eq]
@[simp] theorem clearLatches_lineAcc (s : State) : (clearLatches s).lineAcc = s.lineAcc := by rw [clearLatches_eq]
@[simp] theorem clearLatches_fb (s : State) : (clearLatches s).fb = s.fb := by rw [clearLatches_eq]
@[simp] theorem clearLatches_pressed (s : State) : (clearLatches s).pressed = s.pressed := by rw [clearLatches_eq]
@[simp] theorem clearLatches_buttonSchedule (s : State) : (clearLatches s).buttonSchedule = s.buttonSchedule := by rw [clearLatches_eq]
@[simp] theorem clearLatches_presented (s : State) : (clearLatches s).presented = s.presented := by rw [clearLatches_eq]
@[simp] theorem clearLatches_cycles (s : State) : (clearLatches s).cycles = s.cycles := by rw [clearLatches_eq]

theorem rawWf_clearLatches (s : State) : (clearLatches s).rawWf = s.rawWf := rfl

theorem memoryWf_clearLatches (s : State) : (clearLatches s).memoryWf = s.memoryWf := rfl

theorem renderVisible_eq (ly : Nat) (s : State) : renderVisible ly s = { s with fb := (renderVisible ly s).fb } := by
  unfold renderVisible
  split <;> rfl

theorem rawRead_renderVisible (ly : Nat) (s : State) (x : Nat) : (renderVisible ly s).rawRead x = s.rawRead x := by
  unfold renderVisible
  split <;> rfl

theorem memoryWf_renderVisible (ly : Nat) (s : State) (h : s.memoryWf = true) : (renderVisible ly s).memoryWf = true := by
  unfold renderVisible
  split
  · exact memoryWf_renderLine _ _ (by assumption) h
  · exact h

theorem vblankStart_eq (ly : Nat) (s : State) : vblankStart ly s =
    { s with raw := (vblankStart ly s).raw, presented := (vblankStart ly s).presented } := by
  unfold vblankStart
  split <;> rfl

theorem rawRead_vblankStart_other (ly : Nat) (s : State) (x : Nat) (h : x ≠ ioIf) :
    (vblankStart ly s).rawRead x = s.rawRead x := by
  unfold vblankStart
  split
  · exact rawRead_requestInterrupt_other 0 s x h
  · rfl

theorem memoryWf_vblankStart (ly : Nat) (s : State) (h : s.memoryWf = true) : (vblankStart ly s).memoryWf = true := by
  unfold vblankStart
  split
  · exact memoryWf_requestInterrupt 0 s h
  · exact h

theorem lineAdvance_eq (s : State) : lineAdvance s =
    { s with
      raw := (lineAdvance s).raw, fb := (lineAdvance s).fb, presented := (lineAdvance s).presented, oamLatch := false,
      hblankLatch := false, vblankLatch := (clearLatches s).vblankLatch } := by
  unfold lineAdvance
  dsimp only
  rw [vblankStart_eq, checkCoincidence_eq, renderVisible_eq]
  rfl

@[simp] theorem lineAdvance_params (s : State) : (lineAdvance s).params = s.params := by rw [lineAdvance_eq]
@[simp] theorem lineAdvance_a (s : State) : (lineAdvance s).a = s.a := by rw [lineAdvance_eq]
@[simp] theorem lineAdvance_f (s : State) : (lineAdvance s).f = s.f := by rw [lineAdvance_eq]
@[simp] theorem lineAdvance_b (s : State) : (lineAdvance s).b = s.b := by rw [lineAdvance_eq]
@[simp] theorem lineAdvance_c (s : State) : (lineAdvance s).c = s.c := by rw [lineAdvance_eq]
@[simp] theorem lineAdvance_d (s : State) : (lineAdvance s).d = s.d := by rw [lineAdvance_eq]
@[simp] theorem lineAdvance_e (s : State) : (lineAdvance s).e = s.e := by rw [lineAdvance_eq]
@[simp] theorem lineAdvance_h (s : State) : (lineAdvance s).h = s.h := by rw [lineAdvance_eq]
@[simp] theorem lineAdvance_l (s : State) : (lineAdvance s).l = s.l := by rw [lineAdvance_eq]
@[simp] theorem lineAdvance_sp (s : State) : (lineAdvance s).sp = s.sp := by rw [lineAdvance_eq]
@[simp] theorem lineAdvance_pc (s : State) : (lineAdvance s).pc = s.pc := by rw [lineAdvance_eq]
@[simp] theorem lineAdvance_ime (s : State) : (lineAdvance s).ime = s.ime := by rw [lineAdvance_eq]
@[simp] theorem lineAdvance_imePend (s : State) : (lineAdvance s).imePend = s.imePend := by rw [lineAdvance_eq]
@[simp] theorem lineAdvance_imePendFresh (s : State) : (lineAdvance s).imePendFresh = s.imePendFresh := by rw [lineAdvance_eq]
@[simp] theorem lineAdvance_halted (s : State) : (lineAdvance s).halted = s.halted := by rw [lineAdvance_eq]
@[simp] theorem lineAdvance_stopped (s : State) : (lineAdvance s).stopped = s.stopped := by rw [lineAdvance_eq]
@[simp] theorem lineAdvance_savedP1 (s : State) : (lineAdvance s).savedP1 = s.savedP1 := by rw [lineAdvance_eq]
@[simp] theorem lineAdvance_savedLcdc (s : State) : (lineAdvance s).savedLcdc = s.savedLcdc := by rw [lineAdvance_eq]
@[simp] theorem lineAdvance_savedTac (s : State) : (lineAdvance s).savedTac = s.savedTac := by rw [lineAdvance_eq]
@[simp] theorem lineAdvance_fault (s : State) : (lineAdvance s).fault = s.fault := by rw [lineAdvance_eq]
@[simp] theorem lineAdvance_romImage (s : State) : (lineAdvance s).romImage = s.romImage := by rw [lineAdvance_eq]
@[simp] theorem lineAdvance_romLen (s : State) : (lineAdvance s).romLen = s.romLen := by rw [lineAdvance_eq]
@[simp] theorem lineAdvance_ramBanks (s : State) : (lineAdvance s).ramBanks = s.ramBanks := by rw [lineAdvance_eq]
@[simp] theorem lineAdvance_family (s : State) : (lineAdvance s).family = s.family := by rw [lineAdvance_eq]
@[simp] theorem lineAdvance_hasBattery (s : State) : (lineAdvance s).hasBattery = s.hasBattery := by rw [lineAdvance_eq]
@[simp] theorem lineAdvance_romBankCount (s : State) : (lineAdvance s).romBankCount = s.romBankCount := by rw [lineAdvance_eq]
@[simp] theorem lineAdvance_romBank (s : State) : (lineAdvance s).romBank = s.romBank := by rw [lineAdvance_eq]
@[simp] theorem lineAdvance_ramBank (s : State) : (lineAdvance s).ramBank = s.ramBank := by rw [lineAdvance_eq]
@[simp] theorem lineAdvance_ramEnabled (s : State) : (lineAdvance s).ramEnabled = s.ramEnabled := by rw [lineAdvance_eq]
@[simp] theorem lineAdvance_romBankingMode (s : State) : (lineAdvance s).romBankingMode = s.romBankingMode := by rw [lineAdvance_eq]
@[simp] theorem lineAdvance_divAcc (s : State) : (lineAdvance s).divAcc = s.divAcc := by rw [lineAdvance_eq]
@[simp] theorem lineAdvance_timaAcc (s : State) : (lineAdvance s).timaAcc = s.timaAcc := by rw [lineAdvance_eq]
@[simp] theorem lineAdvance_lineAcc (s : State) : (lineAdvance s).lineAcc = s.lineAcc := by rw [lineAdvance_eq]
@[simp] theorem lineAdvance_pressed (s : State) : (lineAdvance s).pressed = s.pressed := by rw [lineAdvance_eq]
@[simp] theorem lineAdvance_buttonSchedule (s : State) : (lineAdvance s).buttonSchedule = s.buttonSchedule := by rw [lineAdvance_eq]
@[simp] theorem lineAdvance_cycles (s : State) : (lineAdvance s).cycles = s.cycles := by rw [lineAdvance_eq]

theorem memoryWf_lineAdvance (s : State) (h : s.memoryWf = true) : (lineAdvance s).memoryWf = true :=
  memoryWf_vblankStart _ _ (memoryWf_checkCoincidence _ (memoryWf_renderVisible _ _
    (memoryWf_rawWrite (clearLatches s) ioLy _ (by decide) (by rw [memoryWf_clearLatches]; exact h))))

/-- A line advance writes LY, STAT and IF only. -/
theorem rawRead_lineAdvance_other (s : State) (x : Nat) (h0 : x ≠ ioLy) (h1 : x ≠ ioStat) (h2 : x ≠ ioIf) :
    (lineAdvance s).rawRead x = s.rawRead x := by
  unfold lineAdvance
  dsimp only
  rw [rawRead_vblankStart_other _ _ _ h2, rawRead_checkCoincidence_other _ _ h1 h2, rawRead_renderVisible,
    rawRead_rawWrite_other _ _ _ _ h0]
  rfl

/-- In a canonical `Raw`, a line advance moves LY to the next line (R443). -/
theorem rawRead_ly_lineAdvance (s : State) (h : s.rawWf = true) :
    (lineAdvance s).rawRead ioLy = BitVec.ofNat 8 (nextLine (s.rawRead ioLy)) := by
  unfold lineAdvance
  dsimp only
  rw [rawRead_vblankStart_other _ _ _ (by decide), rawRead_checkCoincidence_other _ _ (by decide) (by decide),
    rawRead_renderVisible, rawRead_rawWrite_same _ _ _ (by rw [rawWf_clearLatches]; exact h)]

/-! ### The line loop (R441) -/

/-- The state with the line accumulator replaced. -/
def withLineAcc (s : State) (n : Nat) : State := { s with lineAcc := n }

theorem withLineAcc_lineAcc (s : State) (n : Nat) : (withLineAcc s n).lineAcc = n := rfl

theorem rawRead_withLineAcc (s : State) (n x : Nat) : (withLineAcc s n).rawRead x = s.rawRead x := rfl

theorem rawWf_withLineAcc (s : State) (n : Nat) : (withLineAcc s n).rawWf = s.rawWf := rfl

theorem memoryWf_withLineAcc (s : State) (n : Nat) : (withLineAcc s n).memoryWf = s.memoryWf := rfl

theorem withLineAcc_withLineAcc (s : State) (n k : Nat) : withLineAcc (withLineAcc s n) k = withLineAcc s k := rfl

/-- One turn of the line loop: the accumulator gives up a line. -/
theorem lineLoop_succ (k : Nat) (s : State) (h : s.lineAcc ≥ 456) :
    lineLoop (k + 1) s = lineLoop k (lineAdvance (withLineAcc s (s.lineAcc - 456))) := by
  simp only [lineLoop]
  rw [if_pos h]
  rfl

theorem lineLoop_eq (k : Nat) (s : State) : lineLoop k s =
    { s with
      raw := (lineLoop k s).raw, fb := (lineLoop k s).fb, presented := (lineLoop k s).presented,
      oamLatch := (lineLoop k s).oamLatch, hblankLatch := (lineLoop k s).hblankLatch,
      vblankLatch := (lineLoop k s).vblankLatch, lineAcc := (lineLoop k s).lineAcc } := by
  induction k generalizing s with
  | zero => rfl
  | succ k ih =>
    by_cases h : s.lineAcc ≥ 456
    · rw [lineLoop_succ k s h, ih]
      generalize s.lineAcc - 456 = n
      rw [lineAdvance_eq]
      rfl
    · simp only [lineLoop, if_neg h]

@[simp] theorem lineLoop_params (k : Nat) (s : State) : (lineLoop k s).params = s.params := by rw [lineLoop_eq]
@[simp] theorem lineLoop_a (k : Nat) (s : State) : (lineLoop k s).a = s.a := by rw [lineLoop_eq]
@[simp] theorem lineLoop_f (k : Nat) (s : State) : (lineLoop k s).f = s.f := by rw [lineLoop_eq]
@[simp] theorem lineLoop_b (k : Nat) (s : State) : (lineLoop k s).b = s.b := by rw [lineLoop_eq]
@[simp] theorem lineLoop_c (k : Nat) (s : State) : (lineLoop k s).c = s.c := by rw [lineLoop_eq]
@[simp] theorem lineLoop_d (k : Nat) (s : State) : (lineLoop k s).d = s.d := by rw [lineLoop_eq]
@[simp] theorem lineLoop_e (k : Nat) (s : State) : (lineLoop k s).e = s.e := by rw [lineLoop_eq]
@[simp] theorem lineLoop_h (k : Nat) (s : State) : (lineLoop k s).h = s.h := by rw [lineLoop_eq]
@[simp] theorem lineLoop_l (k : Nat) (s : State) : (lineLoop k s).l = s.l := by rw [lineLoop_eq]
@[simp] theorem lineLoop_sp (k : Nat) (s : State) : (lineLoop k s).sp = s.sp := by rw [lineLoop_eq]
@[simp] theorem lineLoop_pc (k : Nat) (s : State) : (lineLoop k s).pc = s.pc := by rw [lineLoop_eq]
@[simp] theorem lineLoop_ime (k : Nat) (s : State) : (lineLoop k s).ime = s.ime := by rw [lineLoop_eq]
@[simp] theorem lineLoop_imePend (k : Nat) (s : State) : (lineLoop k s).imePend = s.imePend := by rw [lineLoop_eq]
@[simp] theorem lineLoop_imePendFresh (k : Nat) (s : State) : (lineLoop k s).imePendFresh = s.imePendFresh := by rw [lineLoop_eq]
@[simp] theorem lineLoop_halted (k : Nat) (s : State) : (lineLoop k s).halted = s.halted := by rw [lineLoop_eq]
@[simp] theorem lineLoop_stopped (k : Nat) (s : State) : (lineLoop k s).stopped = s.stopped := by rw [lineLoop_eq]
@[simp] theorem lineLoop_savedP1 (k : Nat) (s : State) : (lineLoop k s).savedP1 = s.savedP1 := by rw [lineLoop_eq]
@[simp] theorem lineLoop_savedLcdc (k : Nat) (s : State) : (lineLoop k s).savedLcdc = s.savedLcdc := by rw [lineLoop_eq]
@[simp] theorem lineLoop_savedTac (k : Nat) (s : State) : (lineLoop k s).savedTac = s.savedTac := by rw [lineLoop_eq]
@[simp] theorem lineLoop_fault (k : Nat) (s : State) : (lineLoop k s).fault = s.fault := by rw [lineLoop_eq]
@[simp] theorem lineLoop_romImage (k : Nat) (s : State) : (lineLoop k s).romImage = s.romImage := by rw [lineLoop_eq]
@[simp] theorem lineLoop_romLen (k : Nat) (s : State) : (lineLoop k s).romLen = s.romLen := by rw [lineLoop_eq]
@[simp] theorem lineLoop_ramBanks (k : Nat) (s : State) : (lineLoop k s).ramBanks = s.ramBanks := by rw [lineLoop_eq]
@[simp] theorem lineLoop_family (k : Nat) (s : State) : (lineLoop k s).family = s.family := by rw [lineLoop_eq]
@[simp] theorem lineLoop_hasBattery (k : Nat) (s : State) : (lineLoop k s).hasBattery = s.hasBattery := by rw [lineLoop_eq]
@[simp] theorem lineLoop_romBankCount (k : Nat) (s : State) : (lineLoop k s).romBankCount = s.romBankCount := by rw [lineLoop_eq]
@[simp] theorem lineLoop_romBank (k : Nat) (s : State) : (lineLoop k s).romBank = s.romBank := by rw [lineLoop_eq]
@[simp] theorem lineLoop_ramBank (k : Nat) (s : State) : (lineLoop k s).ramBank = s.ramBank := by rw [lineLoop_eq]
@[simp] theorem lineLoop_ramEnabled (k : Nat) (s : State) : (lineLoop k s).ramEnabled = s.ramEnabled := by rw [lineLoop_eq]
@[simp] theorem lineLoop_romBankingMode (k : Nat) (s : State) : (lineLoop k s).romBankingMode = s.romBankingMode := by rw [lineLoop_eq]
@[simp] theorem lineLoop_divAcc (k : Nat) (s : State) : (lineLoop k s).divAcc = s.divAcc := by rw [lineLoop_eq]
@[simp] theorem lineLoop_timaAcc (k : Nat) (s : State) : (lineLoop k s).timaAcc = s.timaAcc := by rw [lineLoop_eq]
@[simp] theorem lineLoop_pressed (k : Nat) (s : State) : (lineLoop k s).pressed = s.pressed := by rw [lineLoop_eq]
@[simp] theorem lineLoop_buttonSchedule (k : Nat) (s : State) : (lineLoop k s).buttonSchedule = s.buttonSchedule := by rw [lineLoop_eq]
@[simp] theorem lineLoop_cycles (k : Nat) (s : State) : (lineLoop k s).cycles = s.cycles := by rw [lineLoop_eq]

/-- A line advance neither reads nor writes the line accumulator. -/
theorem lineAdvance_withLineAcc (s : State) (n : Nat) :
    lineAdvance (withLineAcc s n) = withLineAcc (lineAdvance s) n := by
  have hc : ∀ u : State, checkCoincidence (withLineAcc u n) = withLineAcc (checkCoincidence u) n := fun u => by
    unfold checkCoincidence
    show (if u.rawRead ioLy = u.rawRead ioLyc then _ else _) = _
    split
    · show (if (State.rawRead (u.rawWrite ioStat (u.rawRead ioStat ||| 4)) ioStat).getLsbD 6 = true then _ else _) = _
      dsimp only
      split <;> rfl
    · rfl
  have hr : ∀ (y : Nat) (u : State), renderVisible y (withLineAcc u n) = withLineAcc (renderVisible y u) n := fun y u => by
    unfold renderVisible; split <;> rfl
  have hv : ∀ (y : Nat) (u : State), vblankStart y (withLineAcc u n) = withLineAcc (vblankStart y u) n := fun y u => by
    unfold vblankStart; split <;> rfl
  unfold lineAdvance
  dsimp only
  rw [← hv, ← hc, ← hr]
  rfl

/-- Nor do several of them. -/
theorem iterate_lineAdvance_withLineAcc (k : Nat) (s : State) (n : Nat) :
    lineAdvance^[k] (withLineAcc s n) = withLineAcc (lineAdvance^[k] s) n := by
  induction k generalizing s with
  | zero => rfl
  | succ k ih => rw [Function.iterate_succ_apply, Function.iterate_succ_apply, lineAdvance_withLineAcc, ih]

/-- The line loop is one line advance for every 456 cycles held, and leaves the remainder (R441). -/
theorem lineLoop_eq_iterate (k : Nat) (s : State) (h : s.lineAcc / 456 = k) :
    lineLoop k s = withLineAcc (lineAdvance^[k] s) (s.lineAcc % 456) := by
  induction k generalizing s with
  | zero => rw [Nat.mod_eq_of_lt (by omega)]; rfl
  | succ k ih =>
    have e : (lineAdvance (withLineAcc s (s.lineAcc - 456))).lineAcc = s.lineAcc - 456 := lineAdvance_lineAcc _
    have r : (s.lineAcc - 456) % 456 = s.lineAcc % 456 := by omega
    rw [lineLoop_succ k s (by omega), ih _ (by rw [e]; omega), e, r, lineAdvance_withLineAcc, iterate_lineAdvance_withLineAcc,
      withLineAcc_withLineAcc, Function.iterate_succ_apply]

/-- As many turns as the accumulator holds leave it below 456 (R441). -/
theorem lineLoop_lineAcc (k : Nat) (s : State) (h : s.lineAcc / 456 = k) : (lineLoop k s).lineAcc = s.lineAcc % 456 := by
  induction k generalizing s with
  | zero => simp only [lineLoop]; omega
  | succ k ih =>
    have hacc : (lineAdvance (withLineAcc s (s.lineAcc - 456))).lineAcc = s.lineAcc - 456 := by
      rw [lineAdvance_lineAcc, withLineAcc_lineAcc]
    rw [lineLoop_succ k s (by omega), ih _ (by rw [hacc]; omega), hacc]
    omega

theorem memoryWf_lineLoop (k : Nat) (s : State) (h : s.memoryWf = true) : (lineLoop k s).memoryWf = true := by
  induction k generalizing s with
  | zero => exact h
  | succ k ih =>
    by_cases hk : s.lineAcc ≥ 456
    · rw [lineLoop_succ k s hk]
      exact ih _ (memoryWf_lineAdvance _ (by rw [memoryWf_withLineAcc]; exact h))
    · simp only [lineLoop, if_neg hk]
      exact h

/-- The line loop writes LY, STAT and IF only. -/
theorem rawRead_lineLoop_other (k : Nat) (s : State) (x : Nat) (h0 : x ≠ ioLy) (h1 : x ≠ ioStat) (h2 : x ≠ ioIf) :
    (lineLoop k s).rawRead x = s.rawRead x := by
  induction k generalizing s with
  | zero => rfl
  | succ k ih =>
    by_cases hk : s.lineAcc ≥ 456
    · rw [lineLoop_succ k s hk, ih, rawRead_lineAdvance_other _ x h0 h1 h2, rawRead_withLineAcc]
    · simp only [lineLoop, if_neg hk]

/-- The line loop keeps LY at most 153 (R441). -/
theorem rawRead_ly_lineLoop_le (k : Nat) (s : State) (hw : s.memoryWf = true) (h : (s.rawRead ioLy).toNat ≤ 153) :
    ((lineLoop k s).rawRead ioLy).toNat ≤ 153 := by
  induction k generalizing s with
  | zero => exact h
  | succ k ih =>
    by_cases hk : s.lineAcc ≥ 456
    · rw [lineLoop_succ k s hk]
      have hw' : (withLineAcc s (s.lineAcc - 456)).memoryWf = true := by rw [memoryWf_withLineAcc]; exact hw
      refine ih _ (memoryWf_lineAdvance _ hw') ?_
      rw [rawRead_ly_lineAdvance _ ((memoryWf_iff _).mp hw').1, BitVec.toNat_ofNat]
      exact Nat.le_trans (Nat.mod_le _ _) (nextLine_le _)
    · simp only [lineLoop, if_neg hk]
      exact h

/-! ### The mode update (R442) and the LCD off (R440) -/

theorem setMode_eq (mode : Shade) (s : State) : setMode mode s = { s with raw := (setMode mode s).raw } := rfl

theorem oamRequest_eq (mode : Shade) (s : State) : oamRequest mode s =
    { s with raw := (oamRequest mode s).raw, oamLatch := (oamRequest mode s).oamLatch } := by
  unfold oamRequest
  split <;> rfl

theorem hblankRequest_eq (mode : Shade) (s : State) : hblankRequest mode s =
    { s with raw := (hblankRequest mode s).raw, hblankLatch := (hblankRequest mode s).hblankLatch } := by
  unfold hblankRequest
  split <;> rfl

theorem vblankRequest_eq (mode : Shade) (s : State) : vblankRequest mode s =
    { s with raw := (vblankRequest mode s).raw, vblankLatch := (vblankRequest mode s).vblankLatch } := by
  unfold vblankRequest
  split <;> rfl

theorem modeUpdate_eq (s : State) : modeUpdate s =
    { s with
      raw := (modeUpdate s).raw, oamLatch := (modeUpdate s).oamLatch, hblankLatch := (modeUpdate s).hblankLatch,
      vblankLatch := (modeUpdate s).vblankLatch } := by
  unfold modeUpdate
  dsimp only
  rw [vblankRequest_eq, hblankRequest_eq, oamRequest_eq, setMode_eq]

@[simp] theorem modeUpdate_params (s : State) : (modeUpdate s).params = s.params := by rw [modeUpdate_eq]
@[simp] theorem modeUpdate_a (s : State) : (modeUpdate s).a = s.a := by rw [modeUpdate_eq]
@[simp] theorem modeUpdate_f (s : State) : (modeUpdate s).f = s.f := by rw [modeUpdate_eq]
@[simp] theorem modeUpdate_b (s : State) : (modeUpdate s).b = s.b := by rw [modeUpdate_eq]
@[simp] theorem modeUpdate_c (s : State) : (modeUpdate s).c = s.c := by rw [modeUpdate_eq]
@[simp] theorem modeUpdate_d (s : State) : (modeUpdate s).d = s.d := by rw [modeUpdate_eq]
@[simp] theorem modeUpdate_e (s : State) : (modeUpdate s).e = s.e := by rw [modeUpdate_eq]
@[simp] theorem modeUpdate_h (s : State) : (modeUpdate s).h = s.h := by rw [modeUpdate_eq]
@[simp] theorem modeUpdate_l (s : State) : (modeUpdate s).l = s.l := by rw [modeUpdate_eq]
@[simp] theorem modeUpdate_sp (s : State) : (modeUpdate s).sp = s.sp := by rw [modeUpdate_eq]
@[simp] theorem modeUpdate_pc (s : State) : (modeUpdate s).pc = s.pc := by rw [modeUpdate_eq]
@[simp] theorem modeUpdate_ime (s : State) : (modeUpdate s).ime = s.ime := by rw [modeUpdate_eq]
@[simp] theorem modeUpdate_imePend (s : State) : (modeUpdate s).imePend = s.imePend := by rw [modeUpdate_eq]
@[simp] theorem modeUpdate_imePendFresh (s : State) : (modeUpdate s).imePendFresh = s.imePendFresh := by rw [modeUpdate_eq]
@[simp] theorem modeUpdate_halted (s : State) : (modeUpdate s).halted = s.halted := by rw [modeUpdate_eq]
@[simp] theorem modeUpdate_stopped (s : State) : (modeUpdate s).stopped = s.stopped := by rw [modeUpdate_eq]
@[simp] theorem modeUpdate_savedP1 (s : State) : (modeUpdate s).savedP1 = s.savedP1 := by rw [modeUpdate_eq]
@[simp] theorem modeUpdate_savedLcdc (s : State) : (modeUpdate s).savedLcdc = s.savedLcdc := by rw [modeUpdate_eq]
@[simp] theorem modeUpdate_savedTac (s : State) : (modeUpdate s).savedTac = s.savedTac := by rw [modeUpdate_eq]
@[simp] theorem modeUpdate_fault (s : State) : (modeUpdate s).fault = s.fault := by rw [modeUpdate_eq]
@[simp] theorem modeUpdate_romImage (s : State) : (modeUpdate s).romImage = s.romImage := by rw [modeUpdate_eq]
@[simp] theorem modeUpdate_romLen (s : State) : (modeUpdate s).romLen = s.romLen := by rw [modeUpdate_eq]
@[simp] theorem modeUpdate_ramBanks (s : State) : (modeUpdate s).ramBanks = s.ramBanks := by rw [modeUpdate_eq]
@[simp] theorem modeUpdate_family (s : State) : (modeUpdate s).family = s.family := by rw [modeUpdate_eq]
@[simp] theorem modeUpdate_hasBattery (s : State) : (modeUpdate s).hasBattery = s.hasBattery := by rw [modeUpdate_eq]
@[simp] theorem modeUpdate_romBankCount (s : State) : (modeUpdate s).romBankCount = s.romBankCount := by rw [modeUpdate_eq]
@[simp] theorem modeUpdate_romBank (s : State) : (modeUpdate s).romBank = s.romBank := by rw [modeUpdate_eq]
@[simp] theorem modeUpdate_ramBank (s : State) : (modeUpdate s).ramBank = s.ramBank := by rw [modeUpdate_eq]
@[simp] theorem modeUpdate_ramEnabled (s : State) : (modeUpdate s).ramEnabled = s.ramEnabled := by rw [modeUpdate_eq]
@[simp] theorem modeUpdate_romBankingMode (s : State) : (modeUpdate s).romBankingMode = s.romBankingMode := by rw [modeUpdate_eq]
@[simp] theorem modeUpdate_divAcc (s : State) : (modeUpdate s).divAcc = s.divAcc := by rw [modeUpdate_eq]
@[simp] theorem modeUpdate_timaAcc (s : State) : (modeUpdate s).timaAcc = s.timaAcc := by rw [modeUpdate_eq]
@[simp] theorem modeUpdate_lineAcc (s : State) : (modeUpdate s).lineAcc = s.lineAcc := by rw [modeUpdate_eq]
@[simp] theorem modeUpdate_fb (s : State) : (modeUpdate s).fb = s.fb := by rw [modeUpdate_eq]
@[simp] theorem modeUpdate_pressed (s : State) : (modeUpdate s).pressed = s.pressed := by rw [modeUpdate_eq]
@[simp] theorem modeUpdate_buttonSchedule (s : State) : (modeUpdate s).buttonSchedule = s.buttonSchedule := by rw [modeUpdate_eq]
@[simp] theorem modeUpdate_presented (s : State) : (modeUpdate s).presented = s.presented := by rw [modeUpdate_eq]
@[simp] theorem modeUpdate_cycles (s : State) : (modeUpdate s).cycles = s.cycles := by rw [modeUpdate_eq]

theorem rawRead_oamRequest_other (mode : Shade) (s : State) (x : Nat) (h : x ≠ ioIf) :
    (oamRequest mode s).rawRead x = s.rawRead x := by
  unfold oamRequest
  split
  · exact rawRead_requestInterrupt_other 1 s x h
  · rfl

theorem rawRead_hblankRequest_other (mode : Shade) (s : State) (x : Nat) (h : x ≠ ioIf) :
    (hblankRequest mode s).rawRead x = s.rawRead x := by
  unfold hblankRequest
  split
  · exact rawRead_requestInterrupt_other 1 s x h
  · rfl

theorem rawRead_vblankRequest_other (mode : Shade) (s : State) (x : Nat) (h : x ≠ ioIf) :
    (vblankRequest mode s).rawRead x = s.rawRead x := by
  unfold vblankRequest
  split
  · exact rawRead_requestInterrupt_other 1 s x h
  · rfl

/-- The mode update writes STAT and IF only. -/
theorem rawRead_modeUpdate_other (s : State) (x : Nat) (h1 : x ≠ ioStat) (h2 : x ≠ ioIf) :
    (modeUpdate s).rawRead x = s.rawRead x := by
  unfold modeUpdate setMode
  dsimp only
  rw [rawRead_vblankRequest_other _ _ _ h2, rawRead_hblankRequest_other _ _ _ h2, rawRead_oamRequest_other _ _ _ h2,
    rawRead_rawWrite_other _ _ _ _ h1]

theorem memoryWf_modeUpdate (s : State) (h : s.memoryWf = true) : (modeUpdate s).memoryWf = true := by
  have h1 : ∀ (m : Shade) (u : State), u.memoryWf = true → (oamRequest m u).memoryWf = true := fun m u hu => by
    unfold oamRequest
    split
    · exact memoryWf_requestInterrupt 1 u hu
    · exact hu
  have h2 : ∀ (m : Shade) (u : State), u.memoryWf = true → (hblankRequest m u).memoryWf = true := fun m u hu => by
    unfold hblankRequest
    split
    · exact memoryWf_requestInterrupt 1 u hu
    · exact hu
  have h3 : ∀ (m : Shade) (u : State), u.memoryWf = true → (vblankRequest m u).memoryWf = true := fun m u hu => by
    unfold vblankRequest
    split
    · exact memoryWf_requestInterrupt 1 u hu
    · exact hu
  exact h3 _ _ (h2 _ _ (h1 _ _ (memoryWf_rawWrite s ioStat _ (by decide) h)))

theorem lcdOff_eq (s : State) : lcdOff s =
    { s with
      raw := (lcdOff s).raw, lineAcc := 0, oamLatch := false, hblankLatch := false, vblankLatch := false } := rfl

theorem memoryWf_lcdOff (s : State) (h : s.memoryWf = true) : (lcdOff s).memoryWf = true :=
  memoryWf_rawWrite _ _ _ (by decide) (memoryWf_rawWrite
    { s with lineAcc := 0, oamLatch := false, hblankLatch := false, vblankLatch := false } ioLy 0 (by decide) h)

theorem rawRead_ly_lcdOff (s : State) (h : s.rawWf = true) : (lcdOff s).rawRead ioLy = 0 :=
  (rawRead_rawWrite_other _ ioStat ioLy _ (by decide)).trans (rawRead_rawWrite_same
    { s with lineAcc := 0, oamLatch := false, hblankLatch := false, vblankLatch := false } ioLy 0 h)

/-! ### The video update (R440, R441) -/

theorem ppuUpdate_eq (c : Nat) (s : State) : ppuUpdate c s =
    { s with
      raw := (ppuUpdate c s).raw, fb := (ppuUpdate c s).fb, presented := (ppuUpdate c s).presented,
      oamLatch := (ppuUpdate c s).oamLatch, hblankLatch := (ppuUpdate c s).hblankLatch,
      vblankLatch := (ppuUpdate c s).vblankLatch, lineAcc := (ppuUpdate c s).lineAcc } := by
  unfold ppuUpdate
  dsimp only
  split
  · rw [modeUpdate_eq, lineLoop_eq]
  · rfl

@[simp] theorem ppuUpdate_params (c : Nat) (s : State) : (ppuUpdate c s).params = s.params := by rw [ppuUpdate_eq]
@[simp] theorem ppuUpdate_a (c : Nat) (s : State) : (ppuUpdate c s).a = s.a := by rw [ppuUpdate_eq]
@[simp] theorem ppuUpdate_f (c : Nat) (s : State) : (ppuUpdate c s).f = s.f := by rw [ppuUpdate_eq]
@[simp] theorem ppuUpdate_b (c : Nat) (s : State) : (ppuUpdate c s).b = s.b := by rw [ppuUpdate_eq]
@[simp] theorem ppuUpdate_c (c : Nat) (s : State) : (ppuUpdate c s).c = s.c := by rw [ppuUpdate_eq]
@[simp] theorem ppuUpdate_d (c : Nat) (s : State) : (ppuUpdate c s).d = s.d := by rw [ppuUpdate_eq]
@[simp] theorem ppuUpdate_e (c : Nat) (s : State) : (ppuUpdate c s).e = s.e := by rw [ppuUpdate_eq]
@[simp] theorem ppuUpdate_h (c : Nat) (s : State) : (ppuUpdate c s).h = s.h := by rw [ppuUpdate_eq]
@[simp] theorem ppuUpdate_l (c : Nat) (s : State) : (ppuUpdate c s).l = s.l := by rw [ppuUpdate_eq]
@[simp] theorem ppuUpdate_sp (c : Nat) (s : State) : (ppuUpdate c s).sp = s.sp := by rw [ppuUpdate_eq]
@[simp] theorem ppuUpdate_pc (c : Nat) (s : State) : (ppuUpdate c s).pc = s.pc := by rw [ppuUpdate_eq]
@[simp] theorem ppuUpdate_ime (c : Nat) (s : State) : (ppuUpdate c s).ime = s.ime := by rw [ppuUpdate_eq]
@[simp] theorem ppuUpdate_imePend (c : Nat) (s : State) : (ppuUpdate c s).imePend = s.imePend := by rw [ppuUpdate_eq]
@[simp] theorem ppuUpdate_imePendFresh (c : Nat) (s : State) : (ppuUpdate c s).imePendFresh = s.imePendFresh := by rw [ppuUpdate_eq]
@[simp] theorem ppuUpdate_halted (c : Nat) (s : State) : (ppuUpdate c s).halted = s.halted := by rw [ppuUpdate_eq]
@[simp] theorem ppuUpdate_stopped (c : Nat) (s : State) : (ppuUpdate c s).stopped = s.stopped := by rw [ppuUpdate_eq]
@[simp] theorem ppuUpdate_savedP1 (c : Nat) (s : State) : (ppuUpdate c s).savedP1 = s.savedP1 := by rw [ppuUpdate_eq]
@[simp] theorem ppuUpdate_savedLcdc (c : Nat) (s : State) : (ppuUpdate c s).savedLcdc = s.savedLcdc := by rw [ppuUpdate_eq]
@[simp] theorem ppuUpdate_savedTac (c : Nat) (s : State) : (ppuUpdate c s).savedTac = s.savedTac := by rw [ppuUpdate_eq]
@[simp] theorem ppuUpdate_fault (c : Nat) (s : State) : (ppuUpdate c s).fault = s.fault := by rw [ppuUpdate_eq]
@[simp] theorem ppuUpdate_romImage (c : Nat) (s : State) : (ppuUpdate c s).romImage = s.romImage := by rw [ppuUpdate_eq]
@[simp] theorem ppuUpdate_romLen (c : Nat) (s : State) : (ppuUpdate c s).romLen = s.romLen := by rw [ppuUpdate_eq]
@[simp] theorem ppuUpdate_ramBanks (c : Nat) (s : State) : (ppuUpdate c s).ramBanks = s.ramBanks := by rw [ppuUpdate_eq]
@[simp] theorem ppuUpdate_family (c : Nat) (s : State) : (ppuUpdate c s).family = s.family := by rw [ppuUpdate_eq]
@[simp] theorem ppuUpdate_hasBattery (c : Nat) (s : State) : (ppuUpdate c s).hasBattery = s.hasBattery := by rw [ppuUpdate_eq]
@[simp] theorem ppuUpdate_romBankCount (c : Nat) (s : State) : (ppuUpdate c s).romBankCount = s.romBankCount := by rw [ppuUpdate_eq]
@[simp] theorem ppuUpdate_romBank (c : Nat) (s : State) : (ppuUpdate c s).romBank = s.romBank := by rw [ppuUpdate_eq]
@[simp] theorem ppuUpdate_ramBank (c : Nat) (s : State) : (ppuUpdate c s).ramBank = s.ramBank := by rw [ppuUpdate_eq]
@[simp] theorem ppuUpdate_ramEnabled (c : Nat) (s : State) : (ppuUpdate c s).ramEnabled = s.ramEnabled := by rw [ppuUpdate_eq]
@[simp] theorem ppuUpdate_romBankingMode (c : Nat) (s : State) : (ppuUpdate c s).romBankingMode = s.romBankingMode := by rw [ppuUpdate_eq]
@[simp] theorem ppuUpdate_divAcc (c : Nat) (s : State) : (ppuUpdate c s).divAcc = s.divAcc := by rw [ppuUpdate_eq]
@[simp] theorem ppuUpdate_timaAcc (c : Nat) (s : State) : (ppuUpdate c s).timaAcc = s.timaAcc := by rw [ppuUpdate_eq]
@[simp] theorem ppuUpdate_pressed (c : Nat) (s : State) : (ppuUpdate c s).pressed = s.pressed := by rw [ppuUpdate_eq]
@[simp] theorem ppuUpdate_buttonSchedule (c : Nat) (s : State) : (ppuUpdate c s).buttonSchedule = s.buttonSchedule := by rw [ppuUpdate_eq]
@[simp] theorem ppuUpdate_cycles (c : Nat) (s : State) : (ppuUpdate c s).cycles = s.cycles := by rw [ppuUpdate_eq]

theorem ppuUpdate_lineAcc (c : Nat) (s : State) : (ppuUpdate c s).lineAcc =
    if (s.rawRead ioLcdc).getLsbD 7 then (s.lineAcc + c) % 456 else 0 := by
  unfold ppuUpdate
  dsimp only
  split
  · rw [modeUpdate_lineAcc]
    exact lineLoop_lineAcc _ (withLineAcc s (s.lineAcc + c)) rfl
  · rfl

theorem memoryWf_ppuUpdate (c : Nat) (s : State) (h : s.memoryWf = true) : (ppuUpdate c s).memoryWf = true := by
  unfold ppuUpdate
  dsimp only
  split
  · exact memoryWf_modeUpdate _ (memoryWf_lineLoop _ (withLineAcc s (s.lineAcc + c)) h)
  · exact memoryWf_lcdOff _ h

theorem rawRead_ly_ppuUpdate_le (c : Nat) (s : State) (hw : s.memoryWf = true) (h : (s.rawRead ioLy).toNat ≤ 153) :
    ((ppuUpdate c s).rawRead ioLy).toNat ≤ 153 := by
  unfold ppuUpdate
  dsimp only
  split
  · rw [rawRead_modeUpdate_other _ _ (by decide) (by decide)]
    exact rawRead_ly_lineLoop_le _ (withLineAcc s (s.lineAcc + c)) hw h
  · rw [rawRead_ly_lcdOff s ((memoryWf_iff s).mp hw).1]
    decide

end Sys2Proof.Machine
end

