-- ==== Sys2Proof/Laws/Step.lean ====
section
/-! SUPPORT. What the parts of a step do and keep: the interrupt service and check, the ageing of a pending IME change, the
stopped and halted steps, the host's input; and the cases of the CPU step and of the system step. -/

namespace Sys2Proof.Machine

open Sys2Proof

/-! ### Taking an interrupt -/

theorem Kept.serviceInterrupt (i : Nat) (s : State) : Kept s (Machine.serviceInterrupt i s) := by
  have h1 : ∀ u : State, Kept u { u with ime := false, imePend := .noChange, imePendFresh := false } :=
    fun u => Kept.cpu rfl id id
  have h2 : ∀ (u : State) (p : Word) (n : Int), Kept u { u with pc := p, cycles := n } := fun u p n => Kept.cpu rfl id id
  exact (Kept.push16 s.pc s).trans ((h1 _).trans ((Kept.rawWrite _ ioIf _ (by decide) (by decide)).trans (h2 _ _ _)))

@[simp] theorem serviceInterrupt_halted (i : Nat) (s : State) : (serviceInterrupt i s).halted = s.halted :=
  push16_halted s.pc s

@[simp] theorem serviceInterrupt_stopped (i : Nat) (s : State) : (serviceInterrupt i s).stopped = s.stopped :=
  push16_stopped s.pc s

@[simp] theorem serviceInterrupt_fault (i : Nat) (s : State) : (serviceInterrupt i s).fault = s.fault :=
  push16_fault s.pc s

@[simp] theorem serviceInterrupt_ime (i : Nat) (s : State) : (serviceInterrupt i s).ime = false := rfl

@[simp] theorem serviceInterrupt_pc (i : Nat) (s : State) :
    (serviceInterrupt i s).pc = BitVec.ofNat 16 (0x40 + 8 * i) := rfl

@[simp] theorem serviceInterrupt_sp (i : Nat) (s : State) : (serviceInterrupt i s).sp = s.sp - 2 := push16_sp s.pc s

@[simp] theorem serviceInterrupt_imePend (i : Nat) (s : State) : (serviceInterrupt i s).imePend = .noChange := rfl

@[simp] theorem serviceInterrupt_imePendFresh (i : Nat) (s : State) : (serviceInterrupt i s).imePendFresh = false := rfl

@[simp] theorem serviceInterrupt_cycles (i : Nat) (s : State) :
    (serviceInterrupt i s).cycles = s.cycles + s.params.intServiceCycles := by
  simp only [serviceInterrupt, rawWrite_cycles, rawWrite_params, push16_cycles, push16_params]

/-- The service leaves the eight registers as they are (R405). -/
theorem serviceInterrupt_registers (i : Nat) (s : State) :
    let t := serviceInterrupt i s
    t.a = s.a ∧ t.f = s.f ∧ t.b = s.b ∧ t.c = s.c ∧ t.d = s.d ∧ t.e = s.e ∧ t.h = s.h ∧ t.l = s.l := by
  simp only [serviceInterrupt, rawWrite_a, rawWrite_f, rawWrite_b, rawWrite_c, rawWrite_d, rawWrite_e, rawWrite_h, rawWrite_l,
    push16_a, push16_f, push16_b, push16_c, push16_d, push16_e, push16_h, push16_l, and_self]

/-- What the service check can do: nothing, or the service of the lowest enabled request with IME set (R403). -/
theorem serviceCheck_cases (s : State) : serviceCheck s = s ∨
    ∃ i, s.ime = true ∧ lowestRequest (enabledRequests s) = some i ∧ serviceCheck s = serviceInterrupt i s := by
  unfold serviceCheck
  by_cases him : s.ime = true
  · rw [if_pos him]
    cases hl : lowestRequest (enabledRequests s) with
    | none => exact .inl rfl
    | some i => exact .inr ⟨i, him, rfl, rfl⟩
  · rw [if_neg him]
    exact .inl rfl

theorem Kept.serviceCheck (s : State) : Kept s (Machine.serviceCheck s) := by
  rcases serviceCheck_cases s with h | ⟨i, -, -, h⟩
  · rw [h]; exact Kept.refl s
  · rw [h]; exact Kept.serviceInterrupt i s

@[simp] theorem serviceCheck_halted (s : State) : (serviceCheck s).halted = s.halted := by
  rcases serviceCheck_cases s with h | ⟨i, -, -, h⟩ <;> rw [h]
  exact serviceInterrupt_halted i s

@[simp] theorem serviceCheck_stopped (s : State) : (serviceCheck s).stopped = s.stopped := by
  rcases serviceCheck_cases s with h | ⟨i, -, -, h⟩ <;> rw [h]
  exact serviceInterrupt_stopped i s

@[simp] theorem serviceCheck_fault (s : State) : (serviceCheck s).fault = s.fault := by
  rcases serviceCheck_cases s with h | ⟨i, -, -, h⟩ <;> rw [h]
  exact serviceInterrupt_fault i s

/-- The woken CPU (R403). -/
def woken (s : State) : State := { s with halted := false, pc := s.pc + 1 }

/-- What the interrupt check can do: a halted CPU stays as it is or wakes, and any other is checked (R403). -/
theorem interruptCheck_cases (s : State) :
    (s.halted = true ∧ wakeRequests s = 0 ∧ interruptCheck s = s) ∨
    (s.halted = true ∧ wakeRequests s ≠ 0 ∧ interruptCheck s = serviceCheck (woken s)) ∨
    (s.halted = false ∧ interruptCheck s = serviceCheck s) := by
  unfold interruptCheck
  by_cases hh : s.halted = true
  · rw [if_pos hh]
    by_cases hw : wakeRequests s = 0
    · exact .inl ⟨hh, hw, if_pos hw⟩
    · exact .inr (.inl ⟨hh, hw, if_neg hw⟩)
  · rw [if_neg hh]
    exact .inr (.inr ⟨by simpa using hh, rfl⟩)

theorem Kept.woken (s : State) : Kept s (Machine.woken s) := Kept.cpu rfl (fun _ h => by cases h.1) id

theorem Kept.interruptCheck (s : State) : Kept s (Machine.interruptCheck s) := by
  rcases interruptCheck_cases s with ⟨-, -, h⟩ | ⟨-, -, h⟩ | ⟨-, h⟩ <;> rw [h]
  · exact Kept.refl s
  · exact (Kept.woken s).trans (Kept.serviceCheck _)
  · exact Kept.serviceCheck s

@[simp] theorem interruptCheck_stopped (s : State) : (interruptCheck s).stopped = s.stopped := by
  rcases interruptCheck_cases s with ⟨-, -, h⟩ | ⟨-, -, h⟩ | ⟨-, h⟩ <;> rw [h]
  · rw [serviceCheck_stopped]; rfl
  · rw [serviceCheck_stopped]

@[simp] theorem interruptCheck_fault (s : State) : (interruptCheck s).fault = s.fault := by
  rcases interruptCheck_cases s with ⟨-, -, h⟩ | ⟨-, -, h⟩ | ⟨-, h⟩ <;> rw [h]
  · rw [serviceCheck_fault]; rfl
  · rw [serviceCheck_fault]

/-- The check never halts the CPU. -/
theorem interruptCheck_halted (s : State) (h : (interruptCheck s).halted = true) : s.halted = true := by
  rcases interruptCheck_cases s with ⟨hh, -, -⟩ | ⟨hh, -, -⟩ | ⟨hh, hc⟩
  · exact hh
  · exact hh
  · rw [hc, serviceCheck_halted] at h
    exact h

/-! ### Ageing, and the other CPU steps -/

theorem Kept.agePending (s : State) : Kept s (Machine.agePending s) := by
  unfold Machine.agePending
  split
  · exact Kept.refl s
  all_goals split <;> exact Kept.cpu rfl id id

@[simp] theorem agePending_halted (s : State) : (agePending s).halted = s.halted := by
  unfold agePending
  split
  · rfl
  all_goals split <;> rfl

@[simp] theorem agePending_stopped (s : State) : (agePending s).stopped = s.stopped := by
  unfold agePending
  split
  · rfl
  all_goals split <;> rfl

@[simp] theorem agePending_fault (s : State) : (agePending s).fault = s.fault := by
  unfold agePending
  split
  · rfl
  all_goals split <;> rfl

/-- The restore of a stopped machine: P1, LCDC and TAC get their saved values, and the machine runs again (R411). -/
def restored (s : State) : State :=
  { ((s.rawWrite ioP1 s.savedP1).rawWrite ioLcdc s.savedLcdc).rawWrite ioTac s.savedTac with stopped := false }

theorem Kept.restored (s : State) : Kept s (Machine.restored s) := by
  have h1 : ∀ u : State, Kept u { u with stopped := false } := fun u => Kept.cpu rfl (fun _ h => by cases h.2) id
  exact (Kept.rawWrite s ioP1 _ (by decide) (by decide)).trans ((Kept.rawWrite _ ioLcdc _ (by decide) (by decide)).trans
    ((Kept.rawWrite _ ioTac _ (by decide) (by decide)).trans (h1 _)))

/-- What the stopped step can do (R411). -/
theorem stoppedStep_eq (s : State) : stoppedStep s =
    if s.pressed = ⟨false, false, false, false, false, false, false, false⟩
    then restored { s with cycles := s.params.stopStepCycles.val }
    else { s with cycles := s.params.stopStepCycles.val } := rfl

theorem Kept.stoppedStep (s : State) : Kept s (Machine.stoppedStep s) := by
  have h1 : ∀ n : Int, Kept s { s with cycles := n } := fun n => Kept.cpu rfl id id
  rw [stoppedStep_eq]
  split
  · exact (h1 _).trans (Kept.restored _)
  · exact h1 _

@[simp] theorem stoppedStep_halted (s : State) : (stoppedStep s).halted = s.halted := by
  rw [stoppedStep_eq]
  split <;> rfl

theorem Kept.haltedStep (s : State) : Kept s (Machine.haltedStep s) := by
  have h1 : ∀ n : Int, Kept s { s with cycles := n } := fun n => Kept.cpu rfl id id
  exact (h1 _).trans (Kept.interruptCheck _)

@[simp] theorem haltedStep_stopped (s : State) : (haltedStep s).stopped = s.stopped := interruptCheck_stopped _

theorem Kept.afterInstr (s : State) : Kept s (Machine.afterInstr s) := by
  unfold Machine.afterInstr
  split
  · exact Kept.refl s
  · exact (Kept.agePending s).trans (Kept.interruptCheck _)

@[simp] theorem afterInstr_stopped (s : State) : (afterInstr s).stopped = s.stopped := by
  unfold afterInstr
  split
  · rfl
  · simp

theorem afterInstr_halted (s : State) (h : (afterInstr s).halted = true) : s.halted = true := by
  unfold afterInstr at h
  split at h
  · exact h
  · rw [← agePending_halted]
    exact interruptCheck_halted _ h

/-- With a latched decode failure, the CPU step returns the sentinel and changes nothing else (R401). -/
theorem cpuStep_fault (s : State) (h : s.fault.isSome = true) : cpuStep s = .next { s with cycles := -1 } := if_pos h

/-- What the CPU step of a machine without a latched failure can do (R401): a stopped step, a halted step, or the
instruction at PC and what follows it. -/
theorem cpuStep_cases (s : State) (hf : s.fault = none) :
    (s.stopped = true ∧ cpuStep s = .next (stoppedStep s)) ∨
    (s.stopped = false ∧ s.halted = true ∧ cpuStep s = .next (haltedStep s)) ∨
    (s.stopped = false ∧ s.halted = false ∧ ∃ t, exec (fetchInstr s) s = .next t ∧ Kept s t ∧
      cpuStep s = .next (afterInstr t)) := by
  have hn : ¬ s.fault.isSome = true := by rw [hf]; exact Bool.false_ne_true
  unfold cpuStep
  rw [if_neg hn]
  by_cases hs : s.stopped = true
  · exact .inl ⟨hs, if_pos hs⟩
  by_cases hh : s.halted = true
  · exact .inr (.inl ⟨by simpa using hs, hh, by rw [if_neg hs, if_pos hh]⟩)
  · obtain ⟨t, ht, hk⟩ := exec_kept (fetchInstr s) s (fun _ => by simpa using hs) (fun _ => by simpa using hh)
    exact .inr (.inr ⟨by simpa using hs, by simpa using hh, t, ht, hk, by rw [if_neg hs, if_neg hh, ht]⟩)

/-- The CPU step always answers a next state, and keeps everything. -/
theorem cpuStep_kept (s : State) : ∃ t, cpuStep s = .next t ∧ Kept s t := by
  by_cases hf : s.fault.isSome = true
  · exact ⟨_, cpuStep_fault s hf, Kept.cpu rfl id id⟩
  rcases cpuStep_cases s (by simpa using hf) with ⟨-, h⟩ | ⟨-, -, h⟩ | ⟨-, -, t, -, hk, h⟩
  · exact ⟨_, h, Kept.stoppedStep s⟩
  · exact ⟨_, h, Kept.haltedStep s⟩
  · exact ⟨_, h, hk.trans (Kept.afterInstr t)⟩

/-! ### The host's input -/

theorem setButtons_eq (k : Buttons) (s : State) : setButtons k s =
    { s with raw := (setButtons k s).raw, pressed := k } := by
  unfold setButtons
  dsimp only
  split <;> rfl

theorem memoryWf_setButtons (k : Buttons) (s : State) (h : s.memoryWf = true) : (setButtons k s).memoryWf = true := by
  unfold setButtons
  dsimp only
  split
  · exact memoryWf_requestInterrupt 4 s h
  · exact h

/-- A button update writes IF only. -/
theorem rawRead_setButtons_other (k : Buttons) (s : State) (x : Nat) (h : x ≠ ioIf) :
    (setButtons k s).rawRead x = s.rawRead x := by
  unfold setButtons
  dsimp only
  split
  · exact rawRead_requestInterrupt_other 4 s x h
  · rfl

/-- Button updates write IF and the button cache only. -/
theorem buttonUpdates_eq (ks : List Buttons) (s : State) : buttonUpdates ks s =
    { s with raw := (buttonUpdates ks s).raw, pressed := (buttonUpdates ks s).pressed } := by
  induction ks generalizing s with
  | nil => rfl
  | cons k rest ih =>
    have e := setButtons_eq k s
    have h := ih (setButtons k s)
    show buttonUpdates rest (setButtons k s) =
      { s with raw := (buttonUpdates rest (setButtons k s)).raw, pressed := (buttonUpdates rest (setButtons k s)).pressed }
    generalize setButtons k s = u at e h ⊢
    generalize buttonUpdates rest u = v at h ⊢
    exact h.trans (by rw [e])

theorem memoryWf_buttonUpdates (ks : List Buttons) (s : State) (h : s.memoryWf = true) :
    (buttonUpdates ks s).memoryWf = true := by
  induction ks generalizing s with
  | nil => exact h
  | cons k rest ih => exact ih _ (memoryWf_setButtons k s h)

theorem rawRead_buttonUpdates_other (ks : List Buttons) (s : State) (x : Nat) (h : x ≠ ioIf) :
    (buttonUpdates ks s).rawRead x = s.rawRead x := by
  induction ks generalizing s with
  | nil => rfl
  | cons k rest ih => exact (ih _).trans (rawRead_setButtons_other k s x h)

/-- What the host's input can do: use up one entry of the schedule, and set the buttons (R430). -/
theorem takeHostInput_eq (s : State) : takeHostInput s =
    { s with
      raw := (takeHostInput s).raw, pressed := (takeHostInput s).pressed, buttonSchedule := s.buttonSchedule.tail } := by
  unfold takeHostInput
  cases h : s.buttonSchedule with
  | nil =>
    have hs : s = { s with buttonSchedule := [] } := by rw [← h]
    exact hs
  | cons now rest =>
    dsimp only
    rw [buttonUpdates_eq]
    rfl

theorem memoryWf_takeHostInput (s : State) (h : s.memoryWf = true) : (takeHostInput s).memoryWf = true := by
  unfold takeHostInput
  cases s.buttonSchedule with
  | nil => exact h
  | cons now rest => exact memoryWf_buttonUpdates now { s with buttonSchedule := rest } h

theorem rawRead_takeHostInput_other (s : State) (x : Nat) (h : x ≠ ioIf) :
    (takeHostInput s).rawRead x = s.rawRead x := by
  unfold takeHostInput
  cases s.buttonSchedule with
  | nil => rfl
  | cons now rest => exact rawRead_buttonUpdates_other now { s with buttonSchedule := rest } x h

/-! ### The system step -/

/-- A latched decode failure stops the machine (R400). -/
theorem step_fault (s : State) (x : DecodeFault) (h : s.fault = some x) : step s = .fault (.decodeFault x.op x.addr) := by
  unfold step systemStep
  rw [h]

/-- Without one, a step is the host's input, the CPU step, the video and the timer (R400). -/
theorem step_next (s : State) (h : s.fault = none) :
    ∃ t, cpuStep (stepStart s) = .next t ∧ Kept (stepStart s) t ∧ step s = .next (devicesUpdate t) := by
  obtain ⟨t, ht, hk⟩ := cpuStep_kept (stepStart s)
  refine ⟨t, ht, hk, ?_⟩
  unfold step systemStep
  rw [h]
  dsimp only
  rw [ht]

/-- The host's input leaves what the CPU step looks at first, and the registers, as they are. -/
theorem stepStart_eq (s : State) : stepStart s =
    { s with
      raw := (takeHostInput s).raw, pressed := (takeHostInput s).pressed, buttonSchedule := s.buttonSchedule.tail,
      presented := none } := by
  unfold stepStart
  rw [takeHostInput_eq]

/-- The host's input latches no failure and clears none. -/
theorem stepStart_fault (s : State) : (stepStart s).fault = s.fault := by rw [stepStart_eq]

/-- A running step runs the instruction at PC (R400, R401). -/
theorem step_running (s : State) (h : s.Running) :
    ∃ t, exec (fetchInstr (stepStart s)) (stepStart s) = .next t ∧ step s = .next (devicesUpdate (afterInstr t)) := by
  obtain ⟨h1, h2, h3⟩ := h
  have e2 : (stepStart s).stopped = false := by rw [stepStart_eq]; exact h2
  have e3 : (stepStart s).halted = false := by rw [stepStart_eq]; exact h3
  obtain ⟨t, ht, -, hs⟩ := step_next s h1
  rcases cpuStep_cases (stepStart s) ((stepStart_fault s).trans h1) with ⟨c, -⟩ | ⟨-, c, -⟩ | ⟨-, -, u, hu, -, hc⟩
  · rw [e2] at c; cases c
  · rw [e3] at c; cases c
  · rw [hc] at ht
    injection ht with ht
    exact ⟨u, hu, by rw [hs, ht]⟩

/-- A halted step is the host's input, the halted CPU step, the video and the timer (R400, R410). -/
theorem step_halted (s : State) (h1 : s.fault = none) (h2 : s.stopped = false) (h3 : s.halted = true) :
    step s = .next (devicesUpdate (haltedStep (stepStart s))) := by
  have e2 : (stepStart s).stopped = false := by rw [stepStart_eq]; exact h2
  have e3 : (stepStart s).halted = true := by rw [stepStart_eq]; exact h3
  obtain ⟨t, ht, -, hs⟩ := step_next s h1
  rcases cpuStep_cases (stepStart s) ((stepStart_fault s).trans h1) with ⟨c, -⟩ | ⟨-, -, hc⟩ | ⟨-, c, -⟩
  · rw [e2] at c; cases c
  · rw [hc] at ht
    injection ht with ht
    rw [hs, ht]
  · rw [e3] at c; cases c

/-- A step that answers a next state started without a latched failure. -/
theorem step_cases {s t : State} (h : step s = .next t) :
    s.fault = none ∧ ∃ u, cpuStep (stepStart s) = .next u ∧ Kept (stepStart s) u ∧ t = devicesUpdate u := by
  cases hf : s.fault with
  | some x => rw [step_fault s x hf] at h; cases h
  | none =>
    obtain ⟨u, hu, hk, hs⟩ := step_next s hf
    rw [hs] at h
    exact ⟨rfl, u, hu, hk, by injection h with h; exact h.symm⟩

end Sys2Proof.Machine
end

