-- ==== Sys2Proof/Tests/Slice0.lean ====
section
/-! SUPPORT. The model's own tests: the well-formedness check, words written out from the encoding, the vectors of
95_test_vectors.md one step at a time, and a state that meets the hypotheses of each statement that has some. -/

namespace Sys2Proof.Tests

open Sys2Proof Sys2Proof.Machine

/-! ### Helpers -/

/-- `s` with bytes placed behind the bus, those of the instruction at PC first. -/
def run (bytes : List Byte) (cells : List (Word × Byte)) (s : State) : State :=
  cells.foldl (fun u cell => pokeBus cell.1 cell.2 u) (pokeBytes s.pc bytes s)

/-- One CPU step answers a next state that passes the check. -/
def steps (s : State) (check : State → Bool) : Bool :=
  match cpuStep s with
  | .next t => check t
  | .fault _ => false
  | .refused _ => false

/-! ### Well-formedness, and words written out from the encoding (30_encoding.md R149, R151) -/

/-- The one check of WellFormed.lean: `PREFIX CB` alone is no decoded instruction. -/
theorem test_wellFormed_prefixCb : (Instr.prefixCb 0x37).wellFormed = false := by decide

theorem test_wellFormed_others : [Instr.nop, .ldBD8 0xFF, .jpA16 0xFFFF, .illegalD3, .swapA].all Instr.wellFormed = true := by
  decide

/-- Loads: 01 111 110 is LD A,(HL); 00 100 010 is LD (HL+),A; 11 111 000 is LD HL,SP+e8. -/
theorem test_decode_loads :
    decode [0b01111110, 0x00] = .ok (.ldAMemHl, [0x00]) ∧ decode [0b00100010] = .ok (.ldMemHlIncA, []) ∧
    decode [0b11111000, 0x80] = .ok (.ldHlSpE8 0x80, []) ∧
    decode [0b00001000, 0x34, 0x12] = .ok (.ldMemA16Sp 0x1234, []) := by decide

/-- ALU: 10 011 001 is SBC A,C; 11 101 110 is XOR d8; 00 110 101 is DEC (HL). -/
theorem test_decode_alu8 :
    decode [0b10011001] = .ok (.sbcAC, []) ∧ decode [0b11101110, 0x0F] = .ok (.xorD8 0x0F, []) ∧
    decode [0b00110101] = .ok (.decMemHl, []) := by decide

/-- 16-bit: 00 11 1001 is ADD HL,SP; 00 01 1011 is DEC DE. -/
theorem test_decode_alu16 :
    decode [0b00111001] = .ok (.addHlSp, []) ∧ decode [0b00011011] = .ok (.decDe, []) := by decide

/-- Control: 110 11 010 is JP C,a16; 110 01 000 is RET Z; 11 101 111 is RST 28H. -/
theorem test_decode_control :
    decode [0b11011010, 0x00, 0xC0] = .ok (.jpCA16 0xC000, []) ∧ decode [0b11001000] = .ok (.retZ, []) ∧
    decode [0b11101111] = .ok (.rst28, []) := by decide

/-- System: 0x10 takes an ignored byte; the unassigned opcodes are one byte. -/
theorem test_decode_system :
    decode [0x10, 0xAB, 0x00] = .ok (.stop, [0x00]) ∧ decode [0xFD, 0x00] = .ok (.illegalFD, [0x00]) ∧
    decode [0xF3] = .ok (.di, []) := by decide

/-- Secondary: 00 101 101 is SRA L; 01 011 110 is BIT 3,(HL); 10 000 010 is RES 0,D; 11 111 111 is SET 7,A. -/
theorem test_decode_cb :
    decode [0xCB, 0b00101101] = .ok (.sraL, []) ∧ decode [0xCB, 0b01011110] = .ok (.bit3MemHl, []) ∧
    decode [0xCB, 0b10000010] = .ok (.res0D, []) ∧ decode [0xCB, 0b11111111] = .ok (.set7A, []) := by decide

/-- A list that is too short is rejected by name. -/
theorem test_decode_truncated :
    decode [] = .error .noBytes ∧ decode [0xC3, 0x00] = .error (.truncated 0xC3 3) := by decide

/-- The table's numbering: the first byte is the low one. -/
theorem test_decodeTableWord :
    decodeTableWord 8 0x41 = some .ldBC ∧ decodeTableWord 16 0x37CB = some .swapA := by decide

/-! ### Vectors of 95_test_vectors.md, one CPU step each -/

/-! #### Loads and stores (40_loads.md) -/

/-- V40-1, R201: LD B,C. -/
theorem test_v40_1 :
    steps (run [0x41] [] { State.reset with b := 0x00, c := 0x5A }) fun t =>
    decide (t.b = 0x5A ∧ t.pc = 0x0101 ∧ t.cycles = 4) := by
  decide

/-- V40-2, R202: LD A,(HL). -/
theorem test_v40_2 :
    steps (run [0x7E] [(0xC000, 0x99)] { State.reset with h := 0xC0, l := 0x00 }) fun t =>
    decide (t.a = 0x99 ∧ t.pc = 0x0101 ∧ t.cycles = 8) := by
  decide

/-- V40-3, R203: LD (HL),A. -/
theorem test_v40_3 :
    steps (run [0x77] [] { State.reset with a := 0x12, h := 0xD0, l := 0x00 }) fun t =>
    decide (t.pc = 0x0101 ∧ t.cycles = 8 ∧ busRead t 0xD000 = 0x12) := by
  decide

/-- V40-4, R203: LD (HL),A to echo. -/
theorem test_v40_4 :
    steps (run [0x77] [] { State.reset with a := 0x5C, h := 0xE0, l := 0x10 }) fun t =>
    decide (t.pc = 0x0101 ∧ t.cycles = 8 ∧ busRead t 0xC010 = 0x5C ∧ busRead t 0xE010 = 0x5C) := by
  decide

/-- V40-7, R204: LD D,d8. -/
theorem test_v40_7 :
    steps (run [0x16, 0x80] [] State.reset) fun t =>
    decide (t.d = 0x80 ∧ t.pc = 0x0102 ∧ t.cycles = 8) := by
  decide

/-- V40-8, R205: LD (HL),d8. -/
theorem test_v40_8 :
    steps (run [0x36, 0x77] [] { State.reset with h := 0xC1, l := 0x23 }) fun t =>
    decide (t.pc = 0x0102 ∧ t.cycles = 12 ∧ busRead t 0xC123 = 0x77) := by
  decide

/-- V40-9, R206: LD A,(BC). -/
theorem test_v40_9 :
    steps (run [0x0A] [(0xC200, 0x3C)] { State.reset with b := 0xC2, c := 0x00 }) fun t =>
    decide (t.a = 0x3C ∧ t.pc = 0x0101 ∧ t.cycles = 8) := by
  decide

/-- V40-10, R209: LD (DE),A. -/
theorem test_v40_10 :
    steps (run [0x12] [] { State.reset with a := 0xA5, d := 0xC3, e := 0x00 }) fun t =>
    decide (t.pc = 0x0101 ∧ t.cycles = 8 ∧ busRead t 0xC300 = 0xA5) := by
  decide

/-- V40-11, R210: LD A,(a16). -/
theorem test_v40_11 :
    steps (run [0xFA, 0x00, 0xC0] [(0xC000, 0x42)] State.reset) fun t =>
    decide (t.a = 0x42 ∧ t.pc = 0x0103 ∧ t.cycles = 16) := by
  decide

/-- V40-12, R211: LD (a16),A. -/
theorem test_v40_12 :
    steps (run [0xEA, 0x34, 0xC2] [] { State.reset with a := 0x77 }) fun t =>
    decide (t.pc = 0x0103 ∧ t.cycles = 16 ∧ busRead t 0xC234 = 0x77) := by
  decide

/-- V40-13, R212: LDH A,(a8) from P1. -/
theorem test_v40_13 :
    steps (run [0xF0, 0x00] [] State.reset) fun t =>
    decide (t.a = 0xCF ∧ t.pc = 0x0102 ∧ t.cycles = 12) := by
  decide

/-- V40-14, R213: LDH (a8),A. -/
theorem test_v40_14 :
    steps (run [0xE0, 0x80] [] { State.reset with a := 0x42 }) fun t =>
    decide (t.pc = 0x0102 ∧ t.cycles = 12 ∧ busRead t 0xFF80 = 0x42) := by
  decide

/-- V40-15, R215: LD (C),A. -/
theorem test_v40_15 :
    steps (run [0xE2] [] { State.reset with a := 0x24, b := 0x00, c := 0x81 }) fun t =>
    decide (t.pc = 0x0101 ∧ t.cycles = 8 ∧ busRead t 0xFF81 = 0x24) := by
  decide

/-- V40-16, R214: LD A,(C). -/
theorem test_v40_16 :
    steps (run [0xF2] [(0xFF82, 0x66)] { State.reset with b := 0x00, c := 0x82 }) fun t =>
    decide (t.a = 0x66 ∧ t.pc = 0x0101 ∧ t.cycles = 8) := by
  decide

/-- V40-17, R216: LD A,(HL+). -/
theorem test_v40_17 :
    steps (run [0x2A] [(0xC0FF, 0x11)] { State.reset with h := 0xC0, l := 0xFF }) fun t =>
    decide (t.a = 0x11 ∧ t.h = 0xC1 ∧ t.l = 0x00 ∧ t.pc = 0x0101 ∧ t.cycles = 8) := by
  decide

/-- V40-18, R217: LD A,(HL-) at 0x0000. -/
theorem test_v40_18 :
    steps (run [0x3A] [] { State.reset with h := 0x00, l := 0x00 }) fun t =>
    decide (t.a = 0x00 ∧ t.h = 0xFF ∧ t.l = 0xFF ∧ t.pc = 0x0101 ∧ t.cycles = 8) := by
  decide

/-- V40-19, R218: LD (HL+),A at 0xFFFF. -/
theorem test_v40_19 :
    steps (run [0x22] [] { State.reset with a := 0x1F, h := 0xFF, l := 0xFF }) fun t =>
    decide (t.h = 0x00 ∧ t.l = 0x00 ∧ t.pc = 0x0101 ∧ t.cycles = 8 ∧ busRead t 0xFFFF = 0x1F) := by
  decide

/-- V40-20, R219: LD (HL-),A. -/
theorem test_v40_20 :
    steps (run [0x32] [] { State.reset with a := 0x01, h := 0xC0, l := 0x00 }) fun t =>
    decide (t.h = 0xBF ∧ t.l = 0xFF ∧ t.pc = 0x0101 ∧ t.cycles = 8 ∧ busRead t 0xC000 = 0x01) := by
  decide

/-- V40-21, R220: LD BC,d16. -/
theorem test_v40_21 :
    steps (run [0x01, 0x34, 0x12] [] State.reset) fun t =>
    decide (t.b = 0x12 ∧ t.c = 0x34 ∧ t.pc = 0x0103 ∧ t.cycles = 12) := by
  decide

/-- V40-22, R220: LD SP,d16. -/
theorem test_v40_22 :
    steps (run [0x31, 0x00, 0xD0] [] State.reset) fun t =>
    decide (t.sp = 0xD000 ∧ t.pc = 0x0103 ∧ t.cycles = 12) := by
  decide

/-- V40-23, R221: LD (a16),SP. -/
theorem test_v40_23 :
    steps (run [0x08, 0x00, 0xC0] [] { State.reset with sp := 0xFFF8 }) fun t =>
    decide (t.pc = 0x0103 ∧ t.cycles = 20 ∧ busRead t 0xC000 = 0xF8 ∧ busRead t 0xC001 = 0xFF) := by
  decide

/-- V40-24, R221: LD (a16),SP at 0xFFFF. -/
theorem test_v40_24 :
    steps (run [0x08, 0xFF, 0xFF] [] { State.reset with sp := 0x1234 }) fun t =>
    decide (t.pc = 0x0103 ∧ t.cycles = 20 ∧ busRead t 0xFFFF = 0x34 ∧ busRead t 0x0000 = 0x00) := by
  decide

/-- V40-25, R222: LD SP,HL. -/
theorem test_v40_25 :
    steps (run [0xF9] [] { State.reset with h := 0xC1, l := 0x00 }) fun t =>
    decide (t.sp = 0xC100 ∧ t.pc = 0x0101 ∧ t.cycles = 8) := by
  decide

/-- V40-26, R223: PUSH BC. -/
theorem test_v40_26 :
    steps (run [0xC5] [] { State.reset with b := 0x12, c := 0x34 }) fun t =>
    decide (t.sp = 0xFFFC ∧ t.pc = 0x0101 ∧ t.cycles = 16 ∧ busRead t 0xFFFD = 0x12 ∧ busRead t 0xFFFC = 0x34) := by
  decide

/-- V40-27, R223: PUSH AF. -/
theorem test_v40_27 :
    steps (run [0xF5] [] State.reset) fun t =>
    decide (t.sp = 0xFFFC ∧ t.pc = 0x0101 ∧ t.cycles = 16 ∧ busRead t 0xFFFD = 0x01 ∧ busRead t 0xFFFC = 0xB0) := by
  decide

/-- V40-28, R223: PUSH DE at SP=0x0000. -/
theorem test_v40_28 :
    steps (run [0xD5] [] { State.reset with sp := 0x0000, d := 0xAB, e := 0xCD }) fun t =>
    decide (t.sp = 0xFFFE ∧ t.pc = 0x0101 ∧ t.cycles = 16 ∧ busRead t 0xFFFF = 0xAB ∧ busRead t 0xFFFE = 0xCD) := by
  decide

/-- V40-29, R224: POP HL. -/
theorem test_v40_29 :
    steps (run [0xE1] [(0xC000, 0x34), (0xC001, 0x12)] { State.reset with sp := 0xC000 }) fun t =>
    decide (t.h = 0x12 ∧ t.l = 0x34 ∧ t.sp = 0xC002 ∧ t.pc = 0x0101 ∧ t.cycles = 12) := by
  decide

/-- V40-30, R225: POP AF. -/
theorem test_v40_30 :
    steps (run [0xF1] [(0xC000, 0xFF), (0xC001, 0xFF)] { State.reset with sp := 0xC000 }) fun t =>
    decide (t.a = 0xFF ∧ t.f = 0xF0 ∧ t.sp = 0xC002 ∧ t.pc = 0x0101 ∧ t.cycles = 12) := by
  decide

/-- V40-31, R225: POP AF low nibble. -/
theorem test_v40_31 :
    steps (run [0xF1] [(0xC000, 0x0F), (0xC001, 0x00)] { State.reset with sp := 0xC000 }) fun t =>
    decide (t.a = 0x00 ∧ t.f = 0x00 ∧ t.sp = 0xC002 ∧ t.pc = 0x0101 ∧ t.cycles = 12) := by
  decide

/-! #### 8-bit arithmetic and logic (41_alu8.md) -/

/-- V41-1, R251: ADD A,B. -/
theorem test_v41_1 :
    steps (run [0x80] [] { State.reset with a := 0x3A, b := 0xC6, c := 0x00, f := 0x00 }) fun t =>
    decide (t.a = 0x00 ∧ t.f = 0xB0 ∧ t.pc = 0x0101 ∧ t.cycles = 4) := by
  decide

/-- V41-2, R251: ADD A,d8. -/
theorem test_v41_2 :
    steps (run [0xC6, 0x0F] [] { State.reset with a := 0x01, f := 0x00 }) fun t =>
    decide (t.a = 0x10 ∧ t.f = 0x20 ∧ t.pc = 0x0102 ∧ t.cycles = 8) := by
  decide

/-- V41-3, R251: ADD A,(HL). -/
theorem test_v41_3 :
    steps (run [0x86] [(0xC000, 0x20)] { State.reset with a := 0xF0, f := 0x00, h := 0xC0, l := 0x00 }) fun t =>
    decide (t.a = 0x10 ∧ t.f = 0x10 ∧ t.pc = 0x0101 ∧ t.cycles = 8) := by
  decide

/-- V41-4, R252: ADC A,B. -/
theorem test_v41_4 :
    steps (run [0x88] [] { State.reset with a := 0xE1, b := 0x0F, c := 0x00, f := 0x10 }) fun t =>
    decide (t.a = 0xF1 ∧ t.f = 0x20 ∧ t.pc = 0x0101 ∧ t.cycles = 4) := by
  decide

/-- V41-5, R252: ADC A,d8. -/
theorem test_v41_5 :
    steps (run [0xCE, 0xFF] [] { State.reset with a := 0x00, f := 0x10 }) fun t =>
    decide (t.f = 0xB0 ∧ t.pc = 0x0102 ∧ t.cycles = 8) := by
  decide

/-- V41-6, R253: SUB B. -/
theorem test_v41_6 :
    steps (run [0x90] [] { State.reset with a := 0x3E, b := 0x0F, c := 0x00, f := 0x00 }) fun t =>
    decide (t.a = 0x2F ∧ t.f = 0x60 ∧ t.pc = 0x0101 ∧ t.cycles = 4) := by
  decide

/-- V41-7, R253: SUB B borrow. -/
theorem test_v41_7 :
    steps (run [0x90] [] { State.reset with a := 0x3E, b := 0x40, c := 0x00, f := 0x00 }) fun t =>
    decide (t.a = 0xFE ∧ t.f = 0x50 ∧ t.pc = 0x0101 ∧ t.cycles = 4) := by
  decide

/-- V41-8, R253: SUB A. -/
theorem test_v41_8 :
    steps (run [0x97] [] { State.reset with a := 0x77, f := 0x00 }) fun t =>
    decide (t.a = 0x00 ∧ t.f = 0xC0 ∧ t.pc = 0x0101 ∧ t.cycles = 4) := by
  decide

/-- V41-10, R254: SBC A,B. -/
theorem test_v41_10 :
    steps (run [0x98] [] { State.reset with a := 0x3B, b := 0x2A, c := 0x00, f := 0x10 }) fun t =>
    decide (t.a = 0x10 ∧ t.f = 0x40 ∧ t.pc = 0x0101 ∧ t.cycles = 4) := by
  decide

/-- V41-11, R254: SBC A,d8. -/
theorem test_v41_11 :
    steps (run [0xDE, 0xFF] [] { State.reset with a := 0x00, f := 0x10 }) fun t =>
    decide (t.f = 0xF0 ∧ t.pc = 0x0102 ∧ t.cycles = 8) := by
  decide

/-- V41-12, R254: SBC A,A. -/
theorem test_v41_12 :
    steps (run [0x9F] [] { State.reset with a := 0x55, f := 0x10 }) fun t =>
    decide (t.a = 0xFF ∧ t.f = 0x70 ∧ t.pc = 0x0101 ∧ t.cycles = 4) := by
  decide

/-- V41-13, R255: AND d8. -/
theorem test_v41_13 :
    steps (run [0xE6, 0x3F] [] { State.reset with a := 0x5A, f := 0x00 }) fun t =>
    decide (t.a = 0x1A ∧ t.f = 0x20 ∧ t.pc = 0x0102 ∧ t.cycles = 8) := by
  decide

/-- V41-14, R255: AND B zero. -/
theorem test_v41_14 :
    steps (run [0xA0] [] { State.reset with a := 0xF0, b := 0x0F, c := 0x00, f := 0x10 }) fun t =>
    decide (t.a = 0x00 ∧ t.f = 0xA0 ∧ t.pc = 0x0101 ∧ t.cycles = 4) := by
  decide

/-- V41-15, R256: XOR A. -/
theorem test_v41_15 :
    steps (run [0xAF] [] { State.reset with a := 0x77, f := 0x70 }) fun t =>
    decide (t.a = 0x00 ∧ t.f = 0x80 ∧ t.pc = 0x0101 ∧ t.cycles = 4) := by
  decide

/-- V41-16, R256: XOR d8. -/
theorem test_v41_16 :
    steps (run [0xEE, 0xFF] [] { State.reset with a := 0x0F, f := 0x00 }) fun t =>
    decide (t.a = 0xF0 ∧ t.pc = 0x0102 ∧ t.cycles = 8) := by
  decide

/-- V41-17, R257: OR (HL). -/
theorem test_v41_17 :
    steps (run [0xB6] [(0xC000, 0x00)] { State.reset with a := 0x00, f := 0xF0, h := 0xC0, l := 0x00 }) fun t =>
    decide (t.f = 0x80 ∧ t.pc = 0x0101 ∧ t.cycles = 8) := by
  decide

/-- V41-18, R258: CP d8 equal. -/
theorem test_v41_18 :
    steps (run [0xFE, 0x3C] [] { State.reset with a := 0x3C, f := 0x00 }) fun t =>
    decide (t.f = 0xC0 ∧ t.pc = 0x0102 ∧ t.cycles = 8) := by
  decide

/-- V41-21, R259: INC B. -/
theorem test_v41_21 :
    steps (run [0x04] [] { State.reset with b := 0xFF, c := 0x00, f := 0x10 }) fun t =>
    decide (t.f = 0xB0 ∧ t.b = 0x00 ∧ t.pc = 0x0101 ∧ t.cycles = 4) := by
  decide

/-- V41-22, R259: INC A half. -/
theorem test_v41_22 :
    steps (run [0x3C] [] { State.reset with a := 0x0F, f := 0x00 }) fun t =>
    decide (t.a = 0x10 ∧ t.f = 0x20 ∧ t.pc = 0x0101 ∧ t.cycles = 4) := by
  decide

/-- V41-23, R260: INC (HL). -/
theorem test_v41_23 :
    steps (run [0x34] [(0xC000, 0xFF)] { State.reset with h := 0xC0, l := 0x00, f := 0x00 }) fun t =>
    decide (t.f = 0xA0 ∧ t.pc = 0x0101 ∧ t.cycles = 12 ∧ busRead t 0xC000 = 0x00) := by
  decide

/-- V41-24, R261: DEC B. -/
theorem test_v41_24 :
    steps (run [0x05] [] { State.reset with b := 0x01, c := 0x00, f := 0x10 }) fun t =>
    decide (t.f = 0xD0 ∧ t.b = 0x00 ∧ t.pc = 0x0101 ∧ t.cycles = 4) := by
  decide

/-- V41-25, R261: DEC C. -/
theorem test_v41_25 :
    steps (run [0x0D] [] { State.reset with b := 0x00, c := 0x10, f := 0x00 }) fun t =>
    decide (t.f = 0x60 ∧ t.c = 0x0F ∧ t.pc = 0x0101 ∧ t.cycles = 4) := by
  decide

/-- V41-26, R261: DEC A from 0. -/
theorem test_v41_26 :
    steps (run [0x3D] [] { State.reset with a := 0x00, f := 0x00 }) fun t =>
    decide (t.a = 0xFF ∧ t.f = 0x60 ∧ t.pc = 0x0101 ∧ t.cycles = 4) := by
  decide

/-- V41-27, R262: DEC (HL). -/
theorem test_v41_27 :
    steps (run [0x35] [(0xC000, 0x01)] { State.reset with h := 0xC0, l := 0x00, f := 0x00 }) fun t =>
    decide (t.f = 0xC0 ∧ t.pc = 0x0101 ∧ t.cycles = 12 ∧ busRead t 0xC000 = 0x00) := by
  decide

/-- V41-28, R263: DAA after 0x45+0x38. -/
theorem test_v41_28 :
    steps (run [0x27] [] { State.reset with a := 0x7D, f := 0x00 }) fun t =>
    decide (t.a = 0x83 ∧ t.pc = 0x0101 ∧ t.cycles = 4) := by
  decide

/-- V41-29, R263: DAA after 0x99+0x01. -/
theorem test_v41_29 :
    steps (run [0x27] [] { State.reset with a := 0x9A, f := 0x00 }) fun t =>
    decide (t.a = 0x00 ∧ t.f = 0x90 ∧ t.pc = 0x0101 ∧ t.cycles = 4) := by
  decide

/-- V41-33, R264: CPL. -/
theorem test_v41_33 :
    steps (run [0x2F] [] { State.reset with a := 0x35, f := 0x00 }) fun t =>
    decide (t.a = 0xCA ∧ t.f = 0x60 ∧ t.pc = 0x0101 ∧ t.cycles = 4) := by
  decide

/-- V41-34, R265: SCF. -/
theorem test_v41_34 :
    steps (run [0x37] [] { State.reset with f := 0xE0 }) fun t =>
    decide (t.f = 0x90 ∧ t.pc = 0x0101 ∧ t.cycles = 4) := by
  decide

/-- V41-35, R266: CCF. -/
theorem test_v41_35 :
    steps (run [0x3F] [] { State.reset with f := 0xF0 }) fun t =>
    decide (t.f = 0x80 ∧ t.pc = 0x0101 ∧ t.cycles = 4) := by
  decide

/-- V41-37, R267: RLCA. -/
theorem test_v41_37 :
    steps (run [0x07] [] { State.reset with a := 0x85, f := 0x00 }) fun t =>
    decide (t.a = 0x0B ∧ t.f = 0x10 ∧ t.pc = 0x0101 ∧ t.cycles = 4) := by
  decide

/-- V41-39, R268: RLA. -/
theorem test_v41_39 :
    steps (run [0x17] [] { State.reset with a := 0x80, f := 0x00 }) fun t =>
    decide (t.a = 0x00 ∧ t.f = 0x10 ∧ t.pc = 0x0101 ∧ t.cycles = 4) := by
  decide

/-- V41-40, R269: RRCA. -/
theorem test_v41_40 :
    steps (run [0x0F] [] { State.reset with a := 0x01, f := 0x00 }) fun t =>
    decide (t.a = 0x80 ∧ t.f = 0x10 ∧ t.pc = 0x0101 ∧ t.cycles = 4) := by
  decide

/-- V41-41, R270: RRA. -/
theorem test_v41_41 :
    steps (run [0x1F] [] { State.reset with a := 0x01, f := 0x10 }) fun t =>
    decide (t.a = 0x80 ∧ t.pc = 0x0101 ∧ t.cycles = 4) := by
  decide

/-! #### 16-bit arithmetic (42_alu16.md) -/

/-- V42-1, R300: ADD HL,BC. -/
theorem test_v42_1 :
    steps (run [0x09] [] { State.reset with h := 0x0F, l := 0xFF, b := 0x00, c := 0x01, f := 0x80 }) fun t =>
    decide (t.f = 0xA0 ∧ t.h = 0x10 ∧ t.l = 0x00 ∧ t.pc = 0x0101 ∧ t.cycles = 8) := by
  decide

/-- V42-2, R300: ADD HL,HL. -/
theorem test_v42_2 :
    steps (run [0x29] [] { State.reset with h := 0x80, l := 0x00, f := 0x00 }) fun t =>
    decide (t.f = 0x10 ∧ t.h = 0x00 ∧ t.pc = 0x0101 ∧ t.cycles = 8) := by
  decide

/-- V42-3, R300: ADD HL,SP. -/
theorem test_v42_3 :
    steps (run [0x39] [] { State.reset with h := 0x00, l := 0x01, sp := 0xFFFF, f := 0x40 }) fun t =>
    decide (t.f = 0x30 ∧ t.l = 0x00 ∧ t.pc = 0x0101 ∧ t.cycles = 8) := by
  decide

/-- V42-4, R301: INC BC. -/
theorem test_v42_4 :
    steps (run [0x03] [] { State.reset with b := 0xFF, c := 0xFF, f := 0xF0 }) fun t =>
    decide (t.b = 0x00 ∧ t.c = 0x00 ∧ t.pc = 0x0101 ∧ t.cycles = 8) := by
  decide

/-- V42-5, R302: DEC DE. -/
theorem test_v42_5 :
    steps (run [0x1B] [] { State.reset with d := 0x00, e := 0x00, f := 0x00 }) fun t =>
    decide (t.d = 0xFF ∧ t.e = 0xFF ∧ t.pc = 0x0101 ∧ t.cycles = 8) := by
  decide

/-- V42-6, R302: DEC SP. -/
theorem test_v42_6 :
    steps (run [0x3B] [] { State.reset with sp := 0x0000 }) fun t =>
    decide (t.sp = 0xFFFF ∧ t.pc = 0x0101 ∧ t.cycles = 8) := by
  decide

/-- V42-7, R303: ADD SP,+1. -/
theorem test_v42_7 :
    steps (run [0xE8, 0x01] [] { State.reset with sp := 0x00FF, f := 0xC0 }) fun t =>
    decide (t.f = 0x30 ∧ t.sp = 0x0100 ∧ t.pc = 0x0102 ∧ t.cycles = 16) := by
  decide

/-- V42-8, R303: ADD SP,-1. -/
theorem test_v42_8 :
    steps (run [0xE8, 0xFF] [] { State.reset with sp := 0x0000, f := 0x00 }) fun t =>
    decide (t.sp = 0xFFFF ∧ t.pc = 0x0102 ∧ t.cycles = 16) := by
  decide

/-- V42-10, R304: LD HL,SP-2. -/
theorem test_v42_10 :
    steps (run [0xF8, 0xFE] [] { State.reset with sp := 0xFFF8, f := 0x80 }) fun t =>
    decide (t.f = 0x30 ∧ t.h = 0xFF ∧ t.l = 0xF6 ∧ t.pc = 0x0102 ∧ t.cycles = 12) := by
  decide

/-! #### Control transfer (43_control.md) -/

/-- V43-1, R321: JP a16. -/
theorem test_v43_1 :
    steps (run [0xC3, 0x50, 0x01] [] State.reset) fun t =>
    decide (t.pc = 0x0150 ∧ t.cycles = 16) := by
  decide

/-- V43-2, R322: JP Z,a16 taken. -/
theorem test_v43_2 :
    steps (run [0xCA, 0x00, 0x02] [] { State.reset with f := 0x80 }) fun t =>
    decide (t.pc = 0x0200 ∧ t.cycles = 16) := by
  decide

/-- V43-3, R322: JP Z,a16 not taken. -/
theorem test_v43_3 :
    steps (run [0xCA, 0x00, 0x02] [] { State.reset with f := 0x00 }) fun t =>
    decide (t.pc = 0x0103 ∧ t.cycles = 12) := by
  decide

/-- V43-4, R322: JP NC,a16 taken. -/
theorem test_v43_4 :
    steps (run [0xD2, 0x00, 0x03] [] { State.reset with f := 0x00 }) fun t =>
    decide (t.pc = 0x0300 ∧ t.cycles = 16) := by
  decide

/-- V43-5, R323: JP HL. -/
theorem test_v43_5 :
    steps (run [0xE9] [] { State.reset with h := 0xC0, l := 0x00 }) fun t =>
    decide (t.pc = 0xC000 ∧ t.cycles = 4) := by
  decide

/-- V43-6, R324: JR +5. -/
theorem test_v43_6 :
    steps (run [0x18, 0x05] [] State.reset) fun t =>
    decide (t.pc = 0x0107 ∧ t.cycles = 12) := by
  decide

/-- V43-9, R325: JR NZ not taken. -/
theorem test_v43_9 :
    steps (run [0x20, 0x05] [] { State.reset with f := 0x80 }) fun t =>
    decide (t.pc = 0x0102 ∧ t.cycles = 8) := by
  decide

/-- V43-10, R325: JR C taken. -/
theorem test_v43_10 :
    steps (run [0x38, 0x10] [] { State.reset with f := 0x10 }) fun t =>
    decide (t.pc = 0x0112 ∧ t.cycles = 12) := by
  decide

/-- V43-11, R326: CALL a16. -/
theorem test_v43_11 :
    steps (run [0xCD, 0x00, 0x02] [] State.reset) fun t =>
    decide (t.sp = 0xFFFC ∧ t.pc = 0x0200 ∧ t.cycles = 24 ∧ busRead t 0xFFFD = 0x01 ∧ busRead t 0xFFFC = 0x03) := by
  decide

/-- V43-12, R327: CALL NZ taken. -/
theorem test_v43_12 :
    steps (run [0xC4, 0x00, 0x02] [] { State.reset with f := 0x00 }) fun t =>
    decide (t.sp = 0xFFFC ∧ t.pc = 0x0200 ∧ t.cycles = 24 ∧ busRead t 0xFFFD = 0x01 ∧ busRead t 0xFFFC = 0x03) := by
  decide

/-- V43-13, R327: CALL C not taken. -/
theorem test_v43_13 :
    steps (run [0xDC, 0x00, 0x02] [] { State.reset with f := 0x00 }) fun t =>
    decide (t.pc = 0x0103 ∧ t.cycles = 12 ∧ busRead t 0xFFFD = 0x00 ∧ busRead t 0xFFFC = 0x00) := by
  decide

/-- V43-14, R328: RET. -/
theorem test_v43_14 :
    steps (run [0xC9] [(0xFFFC, 0x03), (0xFFFD, 0x01)] { State.reset with sp := 0xFFFC }) fun t =>
    decide (t.sp = 0xFFFE ∧ t.pc = 0x0103 ∧ t.cycles = 16) := by
  decide

/-- V43-15, R329: RET C taken. -/
theorem test_v43_15 :
    steps (run [0xD8] [(0xFFFC, 0x03), (0xFFFD, 0x01)] { State.reset with f := 0x10, sp := 0xFFFC }) fun t =>
    decide (t.sp = 0xFFFE ∧ t.pc = 0x0103 ∧ t.cycles = 20) := by
  decide

/-- V43-16, R329: RET Z not taken. -/
theorem test_v43_16 :
    steps (run [0xC8] [(0xFFFC, 0x03), (0xFFFD, 0x01)] { State.reset with f := 0x00, sp := 0xFFFC }) fun t =>
    decide (t.pc = 0x0101 ∧ t.cycles = 8) := by
  decide

/-- V43-17, R330: RETI. -/
theorem test_v43_17 :
    steps (run [0xD9] [(0xFFFC, 0x03), (0xFFFD, 0x01)] { State.reset with ime := false, sp := 0xFFFC }) fun t =>
    decide (t.sp = 0xFFFE ∧ t.pc = 0x0103 ∧ t.ime = true ∧ t.cycles = 16) := by
  decide

/-- V43-18, R330: RETI with request. -/
theorem test_v43_18 :
    steps (run [0xD9] [(0xFFFC, 0x03), (0xFFFD, 0x01), (0xFFFF, 0x04), (0xFF0F,
      0x04)] { State.reset with ime := false, sp := 0xFFFC }) fun t =>
    decide (t.pc = 0x0050 ∧ t.cycles = 36 ∧ busRead t 0xFF0F = 0x00 ∧ busRead t 0xFFFD = 0x01 ∧
      busRead t 0xFFFC = 0x03) := by
  decide

/-- V43-19, R331: RST 08H. -/
theorem test_v43_19 :
    steps (run [0xCF] [] State.reset) fun t =>
    decide (t.sp = 0xFFFC ∧ t.pc = 0x0008 ∧ t.cycles = 16 ∧ busRead t 0xFFFD = 0x01 ∧ busRead t 0xFFFC = 0x01) := by
  decide

/-- V43-20, R331: RST 38H. -/
theorem test_v43_20 :
    steps (run [0xFF] [] State.reset) fun t =>
    decide (t.sp = 0xFFFC ∧ t.pc = 0x0038 ∧ t.cycles = 16 ∧ busRead t 0xFFFD = 0x01 ∧ busRead t 0xFFFC = 0x01) := by
  decide

/-! #### System instructions (44_system.md) -/

/-- V44-1, R350: NOP. -/
theorem test_v44_1 :
    steps (run [0x00] [] State.reset) fun t =>
    decide (t.pc = 0x0101 ∧ t.cycles = 4) := by
  decide

/-- V44-2, R351: HALT, no request. -/
theorem test_v44_2 :
    steps (run [0x76] [] State.reset) fun t =>
    decide (t.pc = 0x0100 ∧ t.halted = true ∧ t.cycles = 4) := by
  decide

/-- V44-4, R351: HALT with IF=IE=0x04, IME=1. -/
theorem test_v44_4 :
    steps (run [0x76] [(0xFFFF, 0x04), (0xFF0F, 0x04)] { State.reset with ime := true }) fun t =>
    decide (t.sp = 0xFFFC ∧ t.pc = 0x0050 ∧ t.ime = false ∧ t.cycles = 24 ∧ busRead t 0xFF0F = 0x00 ∧
      busRead t 0xFFFD = 0x01 ∧ busRead t 0xFFFC = 0x01) := by
  decide

/-- V44-6, R352: STOP. -/
theorem test_v44_6 :
    steps (run [0x10, 0x00] [(0xFF07, 0x05)] State.reset) fun t =>
    decide (t.pc = 0x0102 ∧ t.stopped = true ∧ t.cycles = 4 ∧ busRead t 0xFF40 = 0x11 ∧ busRead t 0xFF07 = 0x01) := by
  decide

/-- V44-8, R353: DI with IF=IE=0x01, IME=1. -/
theorem test_v44_8 :
    steps (run [0xF3] [(0xFFFF, 0x01), (0xFF0F, 0x01)] { State.reset with ime := true }) fun t =>
    decide (t.sp = 0xFFFC ∧ t.pc = 0x0040 ∧ t.ime = false ∧ t.cycles = 24 ∧ busRead t 0xFF0F = 0x00 ∧
      busRead t 0xFFFD = 0x01 ∧ busRead t 0xFFFC = 0x01) := by
  decide

/-- V44-9, R354: EI (1 step). -/
theorem test_v44_9 :
    steps (run [0xFB, 0x00] [(0xFFFF, 0x01), (0xFF0F, 0x01)] State.reset) fun t =>
    decide (t.pc = 0x0101 ∧ t.imePend = .enable ∧ t.cycles = 4) := by
  decide

/-- V44-12, R355: CB 37 (SWAP A). -/
theorem test_v44_12 :
    steps (run [0xCB, 0x37] [] { State.reset with a := 0xF0, f := 0x00 }) fun t =>
    decide (t.a = 0x0F ∧ t.pc = 0x0102 ∧ t.cycles = 8) := by
  decide

/-- V44-14, R356: 0xFD, nop_advance. -/
theorem test_v44_14 :
    steps (run [0xFD] [] { State.reset with params := { Params.decided with illegalOpcodePolicy := .nopAdvance } }) fun t =>
    decide (t.pc = 0x0101 ∧ t.cycles = 4) := by
  decide

/-! #### Secondary instructions (45_cb.md) -/

/-- V45-1, R371: RLC B. -/
theorem test_v45_1 :
    steps (run [0xCB, 0x00] [] { State.reset with b := 0x85, c := 0x00, f := 0x00 }) fun t =>
    decide (t.f = 0x10 ∧ t.b = 0x0B ∧ t.pc = 0x0102 ∧ t.cycles = 8) := by
  decide

/-- V45-2, R371: RLC B of 0. -/
theorem test_v45_2 :
    steps (run [0xCB, 0x00] [] { State.reset with b := 0x00, c := 0x00, f := 0x10 }) fun t =>
    decide (t.f = 0x80 ∧ t.pc = 0x0102 ∧ t.cycles = 8) := by
  decide

/-- V45-3, R372: RRC C. -/
theorem test_v45_3 :
    steps (run [0xCB, 0x09] [] { State.reset with b := 0x00, c := 0x01, f := 0x00 }) fun t =>
    decide (t.f = 0x10 ∧ t.c = 0x80 ∧ t.pc = 0x0102 ∧ t.cycles = 8) := by
  decide

/-- V45-4, R373: RL D. -/
theorem test_v45_4 :
    steps (run [0xCB, 0x12] [] { State.reset with d := 0x80, e := 0x00, f := 0x00 }) fun t =>
    decide (t.f = 0x90 ∧ t.d = 0x00 ∧ t.pc = 0x0102 ∧ t.cycles = 8) := by
  decide

/-- V45-5, R374: RR E. -/
theorem test_v45_5 :
    steps (run [0xCB, 0x1B] [] { State.reset with d := 0x00, e := 0x01, f := 0x10 }) fun t =>
    decide (t.e = 0x80 ∧ t.pc = 0x0102 ∧ t.cycles = 8) := by
  decide

/-- V45-6, R375: SLA H. -/
theorem test_v45_6 :
    steps (run [0xCB, 0x24] [] { State.reset with h := 0x80, l := 0x00, f := 0x00 }) fun t =>
    decide (t.f = 0x90 ∧ t.h = 0x00 ∧ t.pc = 0x0102 ∧ t.cycles = 8) := by
  decide

/-- V45-7, R376: SRA L. -/
theorem test_v45_7 :
    steps (run [0xCB, 0x2D] [] { State.reset with h := 0x00, l := 0x81, f := 0x00 }) fun t =>
    decide (t.f = 0x10 ∧ t.l = 0xC0 ∧ t.pc = 0x0102 ∧ t.cycles = 8) := by
  decide

/-- V45-9, R378: SRL A. -/
theorem test_v45_9 :
    steps (run [0xCB, 0x3F] [] { State.reset with a := 0x01, f := 0x00 }) fun t =>
    decide (t.a = 0x00 ∧ t.f = 0x90 ∧ t.pc = 0x0102 ∧ t.cycles = 8) := by
  decide

/-- V45-10, R371: RLC (HL). -/
theorem test_v45_10 :
    steps (run [0xCB, 0x06] [(0xC000, 0x80)] { State.reset with h := 0xC0, l := 0x00, f := 0x00 }) fun t =>
    decide (t.f = 0x10 ∧ t.pc = 0x0102 ∧ t.cycles = 16 ∧ busRead t 0xC000 = 0x01) := by
  decide

/-- V45-11, R379: BIT 7,H set. -/
theorem test_v45_11 :
    steps (run [0xCB, 0x7C] [] { State.reset with h := 0x80, l := 0x00, f := 0x10 }) fun t =>
    decide (t.f = 0x30 ∧ t.pc = 0x0102 ∧ t.cycles = 8) := by
  decide

/-- V45-12, R379: BIT 0,B clear. -/
theorem test_v45_12 :
    steps (run [0xCB, 0x40] [] { State.reset with b := 0xFE, c := 0x00, f := 0x00 }) fun t =>
    decide (t.f = 0xA0 ∧ t.pc = 0x0102 ∧ t.cycles = 8) := by
  decide

/-- V45-13, R379: BIT 0,(HL). -/
theorem test_v45_13 :
    steps (run [0xCB, 0x46] [(0xC000, 0x01)] { State.reset with h := 0xC0, l := 0x00, f := 0x00 }) fun t =>
    decide (t.f = 0x20 ∧ t.pc = 0x0102 ∧ t.cycles = 12) := by
  decide

/-- V45-14, R380: RES 0,(HL). -/
theorem test_v45_14 :
    steps (run [0xCB, 0x86] [(0xC000, 0xFF)] { State.reset with h := 0xC0, l := 0x00 }) fun t =>
    decide (t.pc = 0x0102 ∧ t.cycles = 16 ∧ busRead t 0xC000 = 0xFE) := by
  decide

/-- V45-15, R381: SET 7,A. -/
theorem test_v45_15 :
    steps (run [0xCB, 0xFF] [] { State.reset with a := 0x00 }) fun t =>
    decide (t.a = 0x80 ∧ t.pc = 0x0102 ∧ t.cycles = 8) := by
  decide

/-- V45-16, R381: SET 3,(HL) to ROM. -/
theorem test_v45_16 :
    steps (run [0xCB, 0xDE] [] { State.reset with h := 0x01, l := 0x50 }) fun t =>
    decide (t.pc = 0x0102 ∧ t.cycles = 16 ∧ busRead t 0x0150 = 0x00) := by
  decide


/-! ### Devices, from 95_test_vectors.md -/

/-- V20-9, R74: MBC1 on a 32 KiB image selects a bank past its end. -/
theorem test_v20_9 :
    let s := busWrite 0x2000 0x05 { State.reset with family := .mbc1 }
    s.romBank = 5 ∧ busRead s 0x4000 = 0xFF := by decide

/-- V20-12, R98, R99, R430: directions selected, Right and Up pressed. -/
theorem test_v20_12 :
    let s := setButtons ⟨true, false, true, false, false, false, false, false⟩ (busWrite 0xFF00 0x20 State.reset)
    busRead s 0xFF00 = 0x2A ∧ s.rawRead ioIf = 0x10 := by decide

/-- R430, R400: two updates in one place, a press of A and its release, request the interrupt and leave A released. -/
theorem test_two_updates :
    let k : Bool → Buttons := fun a => ⟨false, false, false, false, a, false, false, false⟩
    let s := takeHostInput { State.reset with buttonSchedule := [[k true, k false], [k true]] }
    s.rawRead ioIf = 0x10 ∧ s.pressed = k false ∧ s.buttonSchedule = [[k true]] := by decide

/-- V44-13, R356, R401, R408: 0xD3, two CPU steps, -1 and -1. -/
theorem test_v44_13 :
    steps (run [0xD3] [] State.reset) (fun t =>
      decide (t.pc = 0x0101 ∧ t.fault = some ⟨0xD3, 0x0100⟩ ∧ t.cycles = -1) &&
        steps { t with cycles := 0 } (fun u => decide (u = t))) = true := by decide

/-- V20-14, R101, R444. -/
theorem test_v20_14 :
    let s := busWrite 0xFF45 0x05 ((State.reset.rawWrite ioLy 5).rawWrite ioStat 0x40)
    s.rawRead ioStat = 0x44 ∧ s.rawRead ioIf = 0x02 := by decide

/-- V60-7, R421. -/
theorem test_v60_7 :
    let s := timerUpdate 16 (((State.reset.rawWrite ioTima 0xFF).rawWrite ioTma 0xAB).rawWrite ioTac 0x05)
    s.rawRead ioTima = 0xAB ∧ s.rawRead ioIf = 0x04 := by decide

/-- V60-12, R441, R442: 80 cycles into line 0 the mode is 3. -/
theorem test_v60_12 : (ppuUpdate 80 State.reset).rawRead ioStat = 0x03 := by decide

/-- V60-3, R403: the upper three bits of IE and IF request nothing. -/
theorem test_v60_3 :
    steps (run [0x00] [(0xFFFF, 0xE0), (0xFF0F, 0xE0)] { State.reset with ime := true }) (fun t =>
      decide (t.pc = 0x0101 ∧ t.cycles = 4)) = true := by decide

/-- V70-2, R502. -/
theorem test_v70_2 :
    [0x00, 0x05, 0x08, 0x52, 0x53, 0x54, 0x09, 0xFF].map romBankCountOf =
      [some 2, some 64, some 512, some 72, some 80, some 96, none, none] := by decide

/-! ### Witnesses: states and operands that meet the hypotheses of the statements -/

theorem witness_RegisterFile : StackPair.hl ≠ .af := by decide

theorem witness_LoadRegister : ∃ dst src : Reg8, dst = src := ⟨.a, .a, rfl⟩

theorem witness_AluForms : ∃ op : AluOp, op = .cp := ⟨.cp, rfl⟩

/-- Both policies, the first and the last opcode. -/
theorem witness_Unassigned :
    (0xD3, Instr.illegalD3) ∈ unassignedOpcodes ∧ (0xFD, Instr.illegalFD) ∈ unassignedOpcodes ∧
    Params.decided.illegalOpcodePolicy = .fault ∧
    { Params.decided with illegalOpcodePolicy := .nopAdvance }.illegalOpcodePolicy = .nopAdvance := by decide

theorem witness_Stop : State.reset.memoryWf = true := memoryWf_reset

/-- The lowest storing address, and a push across the top of work RAM. -/
theorem witness_MemoryFrame :
    (∃ t, exec .ldMemHlA { State.reset with h := 0x80, l := 0x00 } = .next t) ∧ Instr.ldMemHlA ≠ .stop ∧
    storedAt .ldMemHlA { State.reset with h := 0x80, l := 0x00 } = [0x8000] ∧ storesOneByte 0x8000 ∧
    homeOf 0x7FFF ≠ homeOf 0x8000 ∧ homeOf 0x8001 ≠ homeOf 0x8000 ∧
    (∃ t, exec .pushBc { State.reset with sp := 0xE001 } = .next t) ∧
    storedAt .pushBc { State.reset with sp := 0xE001 } = [0xE000, 0xDFFF] ∧
    storesOneByte 0xE000 ∧ storesOneByte 0xDFFF ∧ homeOf 0xE001 ≠ homeOf 0xE000 ∧ homeOf 0xE001 ≠ homeOf 0xDFFF :=
  ⟨⟨_, rfl⟩, by decide, by decide, ⟨by decide, by decide, by decide⟩, by decide, by decide, ⟨_, rfl⟩, by decide,
    ⟨by decide, by decide, by decide⟩, ⟨by decide, by decide, by decide⟩, by decide, by decide⟩

/-- A store that stores nothing: every address reads as before. -/
theorem witness_MemoryFrame_none : storedAt .addAB State.reset = [] ∧ ∃ t, exec .addAB State.reset = .next t :=
  ⟨rfl, _, rfl⟩

/-- The read decoder at both ends of every region. -/
theorem witness_ReadDecoder :
    let s := run [] [(0xFFFF, 0x1F), (0xFE9F, 0x22), (0x9FFF, 0x33), (0x3FFF, 0x44), (0x7FFF, 0x55), (0xDDFF, 0x66)] State.reset
    [0x3FFF, 0x4000, 0x7FFF, 0x9FFF, 0xA000, 0xBFFF, 0xDDFF, 0xFDFF, 0xFE9F, 0xFEA0, 0xFEFF, 0xFF00, 0xFF4D, 0xFFFF].map
      (fun a => busRead s a) =
    [0x44, 0x00, 0x55, 0x33, 0xFF, 0xFF, 0x66, 0x66, 0x22, 0xFF, 0xFF, 0xCF, 0xFF, 0x1F] := by decide

/-- Every kind of plain storage, at both ends. -/
theorem witness_StorageRoundTrip :
    State.reset.memoryWf = true ∧ { State.reset with ramEnabled := true }.memoryWf = true ∧
    { State.reset with ramEnabled := true }.ramEnabled = true ∧
    (∀ n ∈ [0x8000, 0x9FFF], 0x8000 ≤ n ∧ n < 0xA000) ∧ (∀ n ∈ [0xC000, 0xFE9F], 0xC000 ≤ n ∧ n < 0xFEA0) ∧
    (∀ n ∈ [0xFF80, 0xFFFF], 0xFF80 ≤ n) ∧ (∀ n ∈ [0xA000, 0xBFFF], 0xA000 ≤ n ∧ n < 0xC000) ∧
    (∀ n ∈ [0xFF01, 0xFF7F], 0xFF00 < n ∧ n < 0xFF80 ∧ n ∉ State.reset.params.cgbStubSet ∧
      n ∉ [0xFF04, 0xFF41, 0xFF44, 0xFF45, 0xFF46]) ∧
    (∀ n ∈ [0xE000, 0xFDFF], 0xE000 ≤ n ∧ n < 0xFE00) := by decide

theorem witness_DroppedWrites :
    State.reset.family = .noMbc ∧ (0x7FFF : Word).toNat < 0x8000 ∧ (0x0000 : Word).toNat < 0x8000 ∧
    (0x3FFF : Word).toNat < 0x4000 ∧
    ([(0xFEA0 : Word), 0xFEFF].all fun a => decide (0xFEA0 ≤ a.toNat ∧ a.toNat < 0xFF00)) ∧
    ([(0xA000 : Word), 0xBFFF].all fun a => decide (0xA000 ≤ a.toNat ∧ a.toNat < 0xC000)) ∧ State.reset.ramEnabled = false := by decide

/-- Each of the four registers at the ends of its range, the third one in both modes. -/
theorem witness_Mbc1 :
    let s := { State.reset with family := .mbc1 }
    s.family = .mbc1 ∧ ([(0x0000 : Word), 0x1FFF].all fun a => decide (a.toNat < 0x2000)) ∧
    ([(0x2000 : Word), 0x3FFF].all fun a => decide (¬ a.toNat < 0x2000 ∧ a.toNat < 0x4000)) ∧
    ([(0x4000 : Word), 0x5FFF].all fun a => decide (¬ a.toNat < 0x4000 ∧ a.toNat < 0x6000)) ∧
    ([(0x6000 : Word), 0x7FFF].all fun a => decide (¬ a.toNat < 0x6000 ∧ a.toNat < 0x8000)) ∧
    s.romBankingMode = true ∧ { s with romBankingMode := false }.romBankingMode = false := by decide

theorem witness_Mbc2AndMbc3 :
    { State.reset with family := .mbc2 }.family = .mbc2 ∧ { State.reset with family := .mbc3 }.family = .mbc3 ∧
    ([(0x0000 : Word), 0x0100, 0x1FFF].all fun a => decide (a.toNat < 0x2000)) ∧
    ([(0x2000 : Word), 0x3FFF].all fun a => decide (¬ a.toNat < 0x2000 ∧ a.toNat < 0x4000)) ∧
    ([(0x4000 : Word), 0x5FFF, 0x6000, 0x7FFF].all fun a => decide (¬ a.toNat < 0x4000 ∧ a.toNat < 0x8000)) := by decide

/-- With the directions selected, Up going down is a press of a selected group; A going down is not. -/
theorem witness_Joypad :
    let s := State.reset.rawWrite ioP1 0x2F
    (s.rawRead 0xFF00).getLsbD 4 = false ∧ s.pressed.up = false ∧
    (⟨false, false, true, false, false, false, false, false⟩ : Buttons).up = true ∧
    ¬ (s.rawRead 0xFF00).getLsbD 5 = false := by decide

theorem witness_RegisterWrites :
    (∀ n ∈ [0xFF04, 0xFF41, 0xFF44, 0xFF45, 0xFF46], n ∉ State.reset.params.cgbStubSet) ∧
    ([(0xFF4D : Word), 0xFF70].all fun a => decide (0xFF00 < a.toNat ∧ a.toNat < 0xFF80 ∧ a.toNat ∈ State.reset.params.cgbStubSet)) ∧
    State.reset.memoryWf = true ∧ State.reset.params.lyWrite = .reset := by decide

theorem witness_OamDma : State.reset.memoryWf = true ∧ 0xFF46 ∉ State.reset.params.cgbStubSet := by decide

theorem witness_InterruptService : State.reset.memoryWf = true := memoryWf_reset

/-- IE and IF both 0x18: request 3 is the lowest. -/
def requesting : State := run [0x00] [(0xFFFF, 0x18), (0xFF0F, 0x18)] { State.reset with ime := true }

theorem witness_InterruptCheck :
    (State.reset.halted = false ∧ State.reset.ime = false) ∧
    (requesting.halted = false ∧ requesting.ime = true ∧
      (requesting.rawRead 0xFFFF &&& requesting.rawRead 0xFF0F &&& 0x1F).getLsbD 3 = true ∧
      ∀ j < 3, (requesting.rawRead 0xFFFF &&& requesting.rawRead 0xFF0F &&& 0x1F).getLsbD j = false) ∧
    ({ State.reset with halted := true }.rawRead 0xFF0F &&& 0x1F = 0) ∧
    ({ requesting with halted := true }.rawRead 0xFF0F &&& 0x1F ≠ 0) := by decide

theorem witness_PendingIme :
    State.reset.imePend = .noChange ∧
    ({ State.reset with imePend := .disable, imePendFresh := true }.imePend ≠ .noChange ∧
      { State.reset with imePend := .disable, imePendFresh := true }.imePendFresh = true) ∧
    { State.reset with imePend := .enable }.imePendFresh = false ∧
    { State.reset with imePend := .disable }.imePendFresh = false := by decide

/-- EI at PC in a running machine. -/
theorem witness_PendingIme_ei :
    (run [0xFB] [] State.reset).Running ∧ (run [0xFB] [] State.reset).ime = false ∧
    fetchInstr (run [0xFB] [] State.reset) = .ei := ⟨⟨by decide, by decide, by decide⟩, by decide, by decide⟩

/-- A schedule with nothing, with an empty entry, and with two updates. -/
theorem witness_StepRunsDecodedInstruction_host :
    State.reset.buttonSchedule = [] ∧ { State.reset with buttonSchedule := [[]] }.buttonSchedule = [] :: [] ∧
    { State.reset with buttonSchedule := [[allPressed, State.reset.pressed], []] }.buttonSchedule =
      [allPressed, State.reset.pressed] :: [[]] := by decide

/-- A NOP, and an unassigned opcode, whose decode failure is the other case of the statement. -/
theorem witness_StepRunsDecodedInstruction :
    State.reset.Running ∧ decode (fetchBytes (stepStart State.reset)) = .ok (.nop, [0x00, 0x00]) ∧
    (run [0xD3] [] State.reset).Running ∧
    decode (fetchBytes (stepStart (run [0xD3] [] State.reset))) = .ok (.illegalD3, [0x00, 0x00]) ∧
    steps (run [0xD3] [] State.reset) (fun t => t.fault.isSome) = true :=
  ⟨⟨rfl, rfl, rfl⟩, by decide, ⟨by decide, by decide, by decide⟩, by decide, by decide⟩

/-- A step from a state without a latched failure answers a next state, by the law `step_next`. -/
theorem answers (s : State) (h : s.fault = none) : ∃ t, step s = .next t := by
  obtain ⟨t, -, -, ht⟩ := step_next s h
  exact ⟨_, ht⟩

/-- The three clauses: nothing requested; a request with IME 0; a request with IME 1. -/
theorem witness_HaltedStep :
    ({ State.reset with halted := true }.fault = none ∧ { State.reset with halted := true }.stopped = false) ∧
    wakeRequests (stepStart { State.reset with halted := true }) = 0 ∧
    (requesting.fault = none ∧ requesting.stopped = false ∧ requesting.ime = true) ∧
    wakeRequests (stepStart { requesting with halted := true, ime := false }) ≠ 0 ∧
    wakeRequests (stepStart { requesting with halted := true }) ≠ 0 ∧
    enabledRequests (stepStart { requesting with halted := true }) ≠ 0 :=
  ⟨by decide, by decide, by decide, by decide, by decide, by decide⟩

theorem witness_StoppedStep :
    { State.reset with stopped := true }.fault = none ∧ { State.reset with stopped := true }.stopped = true ∧
    { State.reset with stopped := true }.pressed = ⟨false, false, false, false, false, false, false, false⟩ ∧
    { State.reset with stopped := true }.memoryWf = true ∧
    ¬ { State.reset with stopped := true, pressed := allPressed }.pressed =
      ⟨false, false, false, false, false, false, false, false⟩ := by decide

theorem witness_DecodeFailureStops :
    (run [0xD3] [] State.reset).Running ∧ (run [0xD3] [] State.reset).params.illegalOpcodePolicy = .fault ∧
    (0xD3, Instr.illegalD3) ∈ unassignedOpcodes ∧
    busRead (stepStart (run [0xD3] [] State.reset)) (run [0xD3] [] State.reset).pc = 0xD3 ∧
    { State.reset with fault := some ⟨0xD3, 0x0100⟩ }.fault = some ⟨0xD3, 0x0100⟩ :=
  ⟨⟨by decide, by decide, by decide⟩, by decide, by decide, by decide, rfl⟩

/-- The timer disabled and enabled, TIMA about to overflow and not. -/
theorem witness_TimerUpdate :
    State.reset.memoryWf = true ∧ (State.reset.rawRead 0xFF07).getLsbD 2 = false ∧
    (State.reset.rawWrite ioTac 0x05).memoryWf = true ∧ ((State.reset.rawWrite ioTac 0x05).rawRead 0xFF07).getLsbD 2 = true ∧
    (State.reset.rawWrite ioTima 0xFF).memoryWf = true ∧ (State.reset.rawWrite ioTima 0xFF).rawRead 0xFF05 = 0xFF ∧
    State.reset.rawRead 0xFF05 ≠ 0xFF := by decide

theorem witness_VideoMode :
    State.reset.memoryWf = true ∧ (State.reset.rawWrite ioLcdc 0x11).memoryWf = true ∧
    ((State.reset.rawWrite ioLcdc 0x11).rawRead 0xFF40).getLsbD 7 = false := by decide

/-- LY at both ends of its range, and on the line before VBlank; the LCD on. -/
theorem witness_VideoLines :
    (∀ ly ∈ [(0 : Byte), 143, 153], (State.reset.rawWrite ioLy ly).memoryWf = true ∧
      ((State.reset.rawWrite ioLy ly).rawRead 0xFF44).toNat ≤ 153) ∧
    (State.reset.rawRead 0xFF40).getLsbD 7 = true := by decide

theorem witness_BackgroundPixels : 0 < 160 ∧ 159 < 160 ∧ (State.reset.rawRead 0xFF40).getLsbD 1 = false := by decide

/-- Sprites on, and sprite 0 on line 0. -/
def spriteState : State := ((State.reset.rawWrite ioLcdc 0x93).rawWrite 0xFE00 16).rawWrite 0xFE01 12

theorem witness_SpriteDrawing :
    (List.replicate 160 (0 : Shade)).length = 160 ∧ 7 < 8 ∧ oamEntry spriteState 0 ∈ selectedSprites spriteState 0 := by
  decide +kernel

/-- An MBC3 cartridge with a battery and a three-byte save; the same without a save; one without a battery. -/
theorem witness_LoadCartridge :
    let image : Image := ⟨0x8000, [(0x147, 0x13), (0x148, 0x54)]⟩
    Memory.wf (fun _ => 0) image.len image.cells = true ∧
    Memory.wf (fun _ => 0) (Image.ofBytes [0x11, 0x22, 0x33]).len (Image.ofBytes [0x11, 0x22, 0x33]).cells = true ∧
    (loadCartridge Params.decided image (some (Image.ofBytes [0x11, 0x22, 0x33])) []).family = .mbc3 ∧
    (loadCartridge Params.decided image (some (Image.ofBytes [0x11, 0x22, 0x33])) []).ramRead 2 = 0x33 ∧
    (loadCartridge Params.decided image (some (Image.ofBytes [0x11, 0x22, 0x33])) []).hasBattery = true ∧
    (loadCartridge Params.decided image none []).hasBattery = true ∧
    (loadCartridge Params.decided ⟨0x8000, []⟩ (some (Image.ofBytes [0x11])) []).hasBattery = false := by decide

/-- An image one byte longer than 0x8000: its last byte is in ROM bank 2 and not in `Raw`; both ends of the rest of `Raw`. -/
theorem witness_LoadCartridge_raw :
    let s := loadCartridge Params.decided ⟨0x8001, [(0x7FFF, 0x55), (0x8000, 0x77)]⟩ none []
    Memory.wf (fun _ => 0) 0x8001 [(0x7FFF, (0x55 : Byte)), (0x8000, 0x77)] = true ∧
    [0x7FFF, 0x8000, 0xFEFF, 0xFF00, 0xFFFF].map s.rawRead = [0x55, 0x00, 0x00, 0xCF, 0x00] ∧
    s.romRead 0x8000 = 0x77 := by decide

/-- Every bounded field at its bound. -/
def boundState : State := { State.reset.rawWrite ioLy 153 with lineAcc := 455, divAcc := 255 }

theorem witness_StepKeepsInv : boundState.Inv ∧ ∃ t, step boundState = .next t :=
  ⟨⟨by decide, by decide, by decide, by decide, by decide, by decide, by decide⟩, answers _ (by decide)⟩

theorem witness_StepKeepsLaunchData : State.reset.fault = none ∧ ∃ t, step State.reset = .next t :=
  ⟨rfl, answers _ rfl⟩

theorem witness_DecodeEncode :
    (Instr.jpA16 0xFFFF).wellFormed = true ∧ (Instr.stop).wellFormed = true ∧ (Instr.set7A).wellFormed = true := by decide


end Sys2Proof.Tests
end

section
/-! PROOFS. The statements about the whole state (10_state.md): the register file, the state after reset, and what every step
keeps. The parts of a step are put together here: the host's input, the CPU step (`Kept`) and the devices. -/

namespace Sys2Proof.Machine

open Sys2Proof

/-! ### The register file (R30, R31) -/

theorem reg_setReg (s : State) (r q : Reg8) (v : Byte) : (s.setReg r v).reg q = if q = r then v else s.reg q := by
  cases r <;> cases q <;> rfl

theorem pair_setPair (s : State) (p : Pair) (w : Word) : (s.setPair p w).pair p = w := by
  cases p with
  | bc => exact wordOf_low_high w
  | de => exact wordOf_low_high w
  | hl => exact wordOf_low_high w
  | sp => rfl

/-- Clearing the low nibble of the low byte clears that of the word (R31). -/
theorem wordOf_low_mask (w : Word) : wordOf (lowByte w &&& 0xF0) (highByte w) = w &&& 0xFFF0 := by
  have hmask : (0xFFF0 : Word) = wordOf 0xF0 0xFF := by decide
  apply BitVec.eq_of_getLsbD_eq
  intro i hi
  rw [hmask, BitVec.getLsbD_and, ← wordOf_low_high w]
  simp only [getLsbD_wordOf, lowByte_wordOf, highByte_wordOf, BitVec.getLsbD_and]
  by_cases h : i < 8
  · simp only [if_pos h]
  · have hones : (0xFF : Byte).getLsbD (i - 8) = true :=
      (BitVec.getLsbD_allOnes (v := 8)).trans (decide_eq_true (by omega))
    simp only [if_neg h, hones, Bool.and_true]

theorem stackPair_setStackPair (s : State) (k : StackPair) (w : Word) :
    (s.setStackPair k w).stackPair k = if k = .af then w &&& 0xFFF0 else w := by
  cases k with
  | bc => exact wordOf_low_high w
  | de => exact wordOf_low_high w
  | hl => exact wordOf_low_high w
  | af => exact wordOf_low_mask w

/-- A stack-pair write of BC, DE or HL leaves AF as it is. -/
theorem af_setStackPair (s : State) (k : StackPair) (w : Word) (h : k ≠ .af) : (s.setStackPair k w).af = s.af := by
  cases k with
  | af => exact absurd rfl h
  | bc => rfl
  | de => rfl
  | hl => rfl

theorem af_setPair (s : State) (p : Pair) (w : Word) : (s.setPair p w).af = s.af := by
  simp only [State.af, setPair_f, setPair_a]

/-- Settles O1: a write reads back (AF with F[3:0] cleared), and `wordOf_toNat` gives each pair's halves. -/
theorem registerFile : Obligations.RegisterFile := fun s r q p k v w =>
  ⟨reg_setReg s r q v, pair_setPair s p w, wordOf_toNat s.c s.b, wordOf_toNat s.e s.d, wordOf_toNat s.l s.h,
    wordOf_toNat s.f s.a, stackPair_setStackPair s k w, af_setStackPair s k w, af_setPair s p w⟩

/-! ### The invariant after reset (R64) -/

/-- Settles O55: each field's reset value meets its bound, and the storages are canonical by `memoryWf_reset`. -/
theorem resetHasInv : Obligations.ResetHasInv where
  flagsLow := by decide
  lineAcc := by decide
  ly := by decide
  romBank := by decide
  halt := by decide
  divAcc := by decide
  memory := memoryWf_reset

/-! ### What the devices do (R400) -/

/-- What the devices' part of a step can do: nothing after a decode failure, else the video update and then the timer's
(R400, R408). -/
theorem devicesUpdate_cases (s : State) :
    devicesUpdate s = s ∨ devicesUpdate s = timerUpdate s.cycles.toNat (ppuUpdate s.cycles.toNat s) :=
  ite_eq_or_eq _ _ _

/-! ### Every part of a step keeps the invariant -/

theorem Kept.inv {s t : State} (h : Kept s t) (hs : s.Inv) : t.Inv where
  flagsLow := h.flagsLow hs.flagsLow
  lineAcc := h.lineAcc ▸ hs.lineAcc
  ly := h.ly hs.memory hs.ly
  romBank := h.romBank hs.romBank
  halt := h.halt hs.halt
  divAcc := h.divAcc ▸ hs.divAcc
  memory := h.memory hs.memory

/-- The host's input and the clearing of `presented` write none of the invariant's fields but `Raw`, and there IF only. -/
theorem inv_stepStart (s : State) (hs : s.Inv) : (stepStart s).Inv where
  flagsLow := by rw [stepStart_eq]; exact hs.flagsLow
  lineAcc := by rw [stepStart_eq]; exact hs.lineAcc
  ly := (congrArg BitVec.toNat (rawRead_takeHostInput_other s ioLy (by decide))).trans_le hs.ly
  romBank := by rw [stepStart_eq]; exact hs.romBank
  halt := by rw [stepStart_eq]; exact hs.halt
  divAcc := by rw [stepStart_eq]; exact hs.divAcc
  memory := memoryWf_takeHostInput s hs.memory

/-- The video update leaves the line accumulator below 456 (R440, R441). -/
theorem ppuUpdate_lineAcc_lt (c : Nat) (s : State) : (ppuUpdate c s).lineAcc < 456 := by
  rw [ppuUpdate_lineAcc]
  split <;> omega

theorem inv_ppuUpdate (c : Nat) (s : State) (hs : s.Inv) : (ppuUpdate c s).Inv where
  flagsLow := by rw [ppuUpdate_f]; exact hs.flagsLow
  lineAcc := ppuUpdate_lineAcc_lt c s
  ly := rawRead_ly_ppuUpdate_le c s hs.memory hs.ly
  romBank := by rw [ppuUpdate_romBank]; exact hs.romBank
  halt := by rw [ppuUpdate_halted, ppuUpdate_stopped]; exact hs.halt
  divAcc := by rw [ppuUpdate_divAcc]; exact hs.divAcc
  memory := memoryWf_ppuUpdate c s hs.memory

theorem inv_timerUpdate (c : Nat) (s : State) (hs : s.Inv) : (timerUpdate c s).Inv where
  flagsLow := by rw [timerUpdate_f]; exact hs.flagsLow
  lineAcc := by rw [timerUpdate_lineAcc]; exact hs.lineAcc
  ly := by rw [rawRead_timerUpdate_other c s ioLy (by decide) (by decide) (by decide)]; exact hs.ly
  romBank := by rw [timerUpdate_romBank]; exact hs.romBank
  halt := by rw [timerUpdate_halted, timerUpdate_stopped]; exact hs.halt
  divAcc := by rw [timerUpdate_divAcc]; exact Nat.mod_lt _ (by decide)
  memory := memoryWf_timerUpdate c s hs.memory

theorem inv_devicesUpdate (s : State) (hs : s.Inv) : (devicesUpdate s).Inv := by
  rcases devicesUpdate_cases s with h | h <;> rw [h]
  · exact hs
  · exact inv_timerUpdate _ _ (inv_ppuUpdate _ s hs)

/-- Settles O56: a step is the host's input, a CPU step that is `Kept` (all 512 instructions, services and waits), and the
devices' updates, and each of the three keeps the invariant. -/
theorem stepKeepsInv : Obligations.StepKeepsInv := by
  intro s t hs hstep
  obtain ⟨-, u, -, hkept, rfl⟩ := step_cases hstep
  exact inv_devicesUpdate u (hkept.inv (inv_stepStart s hs))

/-! ### No part of a step changes the launch data (R6, R41, R42) -/

/-- What a launch fixes for its whole run: the parameters, the ROM image, and the cartridge's family, battery flag and bank
count (R6, R41, R42). -/
def State.launchData (s : State) : Params × List Host.Cell × Nat × MbcFamily × Bool × Nat :=
  (s.params, s.romImage, s.romLen, s.family, s.hasBattery, s.romBankCount)

theorem launchData_eq_iff (s t : State) : t.launchData = s.launchData ↔
    t.params = s.params ∧ t.romImage = s.romImage ∧ t.romLen = s.romLen ∧ t.family = s.family ∧
      t.hasBattery = s.hasBattery ∧ t.romBankCount = s.romBankCount := by
  simp only [State.launchData, Prod.mk.injEq]

theorem Kept.launchData {s t : State} (h : Kept s t) : t.launchData = s.launchData :=
  (launchData_eq_iff s t).mpr ⟨h.params, h.romImage, h.romLen, h.family, h.hasBattery, h.romBankCount⟩

theorem launchData_stepStart (s : State) : (stepStart s).launchData = s.launchData := by
  rw [stepStart_eq]
  rfl

theorem launchData_devicesUpdate (s : State) : (devicesUpdate s).launchData = s.launchData := by
  rcases devicesUpdate_cases s with h | h <;> rw [h]
  rw [timerUpdate_eq, ppuUpdate_eq]
  rfl

theorem step_launchData {s t : State} (hstep : step s = .next t) : t.launchData = s.launchData := by
  obtain ⟨-, u, -, hkept, rfl⟩ := step_cases hstep
  calc (devicesUpdate u).launchData
      _ = u.launchData := launchData_devicesUpdate u
      _ = (stepStart s).launchData := hkept.launchData
      _ = s.launchData := launchData_stepStart s

/-- Settles O57: the parts of a step keep the launch data (`step_launchData`), and a step without a latched failure answers
the state that the devices leave (`step_next`). -/
theorem stepKeepsLaunchData : Obligations.StepKeepsLaunchData := by
  refine ⟨fun s t hstep => (launchData_eq_iff s t).mp (step_launchData hstep), fun s hfault => ?_⟩
  obtain ⟨t, -, -, hstep⟩ := step_next s hfault
  exact ⟨devicesUpdate t, hstep⟩

end Sys2Proof.Machine
end

section
/-! PROOFS. The statements about memory (20_memory.md): the read decoder, plain storage, the bank-switch controller and the
special registers. -/

namespace Sys2Proof.Machine

open Sys2Proof

/-! ### The region of an address (R71) -/

theorem regionOf_eq_romBank0 (p : Params) {n : Nat} (h : n < 0x4000) : regionOf p n = .romBank0 := by
  rw [regionOf, if_pos h]

theorem regionOf_eq_vram (p : Params) {n : Nat} (hlo : 0x8000 ≤ n) (hhi : n < 0xA000) : regionOf p n = .vram := by
  rw [regionOf, if_neg (by omega), if_neg (by omega), if_pos hhi]

theorem regionOf_eq_externalRam (p : Params) {n : Nat} (hlo : 0xA000 ≤ n) (hhi : n < 0xC000) :
    regionOf p n = .externalRam := by
  rw [regionOf, if_neg (by omega), if_neg (by omega), if_neg (by omega), if_pos hhi]

theorem regionOf_eq_workRam (p : Params) {n : Nat} (hlo : 0xC000 ≤ n) (hhi : n < 0xE000) : regionOf p n = .workRam := by
  rw [regionOf, if_neg (by omega), if_neg (by omega), if_neg (by omega), if_neg (by omega), if_pos hhi]

theorem regionOf_eq_echoRam (p : Params) {n : Nat} (hlo : 0xE000 ≤ n) (hhi : n < 0xFE00) : regionOf p n = .echoRam := by
  rw [regionOf, if_neg (by omega), if_neg (by omega), if_neg (by omega), if_neg (by omega), if_neg (by omega), if_pos hhi]

theorem regionOf_eq_oam (p : Params) {n : Nat} (hlo : 0xFE00 ≤ n) (hhi : n < 0xFEA0) : regionOf p n = .oam := by
  rw [regionOf, if_neg (by omega), if_neg (by omega), if_neg (by omega), if_neg (by omega), if_neg (by omega),
    if_neg (by omega), if_pos hhi]

theorem regionOf_eq_unusable (p : Params) {n : Nat} (hlo : 0xFEA0 ≤ n) (hhi : n < 0xFF00) : regionOf p n = .unusable := by
  rw [regionOf, if_neg (by omega), if_neg (by omega), if_neg (by omega), if_neg (by omega), if_neg (by omega),
    if_neg (by omega), if_neg (by omega), if_pos hhi]

/-- From 0xFF01 on, an address is a CGB stub or plain (R105, R106). -/
theorem regionOf_above_p1 (p : Params) {n : Nat} (h : 0xFF00 < n) :
    regionOf p n = if n < 0xFF80 ∧ n ∈ p.cgbStubSet then .cgbStub else .plainIo := by
  rw [regionOf, if_neg (by omega), if_neg (by omega), if_neg (by omega), if_neg (by omega), if_neg (by omega),
    if_neg (by omega), if_neg (by omega), if_neg (by omega), if_neg (by unfold ioP1; omega)]

/-! ### The read decoder (R71) -/

theorem regionRead_ite (P : Prop) [Decidable P] (r q : Region) (n : Nat) (s : State) :
    regionRead (if P then r else q) n s = if P then regionRead r n s else regionRead q n s :=
  apply_ite (regionRead · n s) P r q

/-- Settles O33: a read is `regionRead` of the address's region, and the chain that finds the region is the statement's. -/
theorem readDecoder : Obligations.ReadDecoder := by
  intro s a
  have hread : busRead s a = regionRead (regionOf s.params a.toNat) a.toNat s := busRead_region rfl
  dsimp only
  rw [hread]
  simp only [regionOf, regionRead_ite]
  rfl

/-! ### Plain storage reads back as written (R75 to R79, R82, R83, R106) -/

/-- A read after a write to the same address: the region is still the one that the write found. -/
theorem busRead_busWrite_region {s : State} {a : Word} {r : Region} (v : Byte) (hr : regionOf s.params a.toNat = r) :
    busRead (busWrite a v s) a = regionRead r a.toNat (regionWrite r a.toNat v s) := by
  rw [busRead_region (show regionOf (busWrite a v s).params a.toNat = r by rw [busWrite_params]; exact hr),
    busWrite_region v hr]

/-- The regions whose bytes are stored in `Raw`. -/
theorem busRead_busWrite_raw {s : State} {a : Word} (v : Byte) (hwf : s.rawWf = true)
    (hr : regionOf s.params a.toNat = .vram ∨ regionOf s.params a.toNat = .workRam ∨
      regionOf s.params a.toNat = .echoRam ∨ regionOf s.params a.toNat = .oam) :
    busRead (busWrite a v s) a = v := by
  rcases hr with hr | hr | hr | hr <;> rw [busRead_busWrite_region v hr] <;> exact rawRead_rawWrite_same s _ v hwf

theorem busRead_busWrite_plainIo {s : State} {a : Word} (v : Byte) (hwf : s.rawWf = true)
    (hr : regionOf s.params a.toNat = .plainIo) (hreg : a.toNat ∉ [0xFF04, 0xFF41, 0xFF44, 0xFF45, 0xFF46]) :
    busRead (busWrite a v s) a = v := by
  rw [busRead_busWrite_region v hr, regionWrite, registerWrite_plain _ v s hreg hr]
  exact rawRead_rawWrite_same s _ v hwf

/-- Enabled external RAM: the bank of the write is the bank of the read (R76). -/
theorem busRead_busWrite_externalRam {s : State} {a : Word} (v : Byte) (hwf : Memory.wf zeroByte 0x8000 s.ramBanks = true)
    (hr : regionOf s.params a.toNat = .externalRam) (hen : s.ramEnabled = true) : busRead (busWrite a v s) a = v := by
  rw [busRead_busWrite_region v hr, regionWrite, if_pos hen, regionRead,
    if_pos (show (s.ramWrite _ v).ramEnabled = true from hen)]
  exact Memory.read_write_same zeroByte 0x8000 s.ramBanks (s.ramOffset a.toNat) v hwf

/-- Echo RAM is work RAM: its reads and writes are those of the address 0x2000 below (R78). -/
theorem echoRam_is_workRam (s : State) (a : Word) (v : Byte) (hlo : 0xE000 ≤ a.toNat) (hhi : a.toNat < 0xFE00) :
    busWrite a v s = busWrite (a - 0x2000) v s ∧ busRead s a = busRead s (a - 0x2000) := by
  have hsub : (a - 0x2000).toNat = a.toNat - 0x2000 := by bv_omega
  have hecho := regionOf_eq_echoRam s.params hlo hhi
  have hwork : regionOf s.params (a - 0x2000).toNat = .workRam := regionOf_eq_workRam _ (by omega) (by omega)
  rw [busWrite_region v hecho, busWrite_region v hwork, busRead_region hecho, busRead_region hwork, hsub]
  simp only [regionWrite, regionRead, and_self]

/-- Settles O34: each kind of plain storage by the law of its region. -/
theorem storageRoundTrip : Obligations.StorageRoundTrip := by
  intro s a v hwf
  obtain ⟨hraw, -, hbanks, -⟩ := (memoryWf_iff s).mp hwf
  refine ⟨?_, fun ⟨hlo, hhi⟩ => echoRam_is_workRam s a v hlo hhi⟩
  rintro (⟨hlo, hhi⟩ | ⟨hlo, hhi⟩ | hhigh | ⟨hlo, hhi, hen⟩ | ⟨hlo, hhi, hstub, hreg⟩)
  · exact busRead_busWrite_raw v hraw (.inl (regionOf_eq_vram _ hlo hhi))
  · refine busRead_busWrite_raw v hraw (.inr ?_)
    by_cases hwork : a.toNat < 0xE000
    · exact .inl (regionOf_eq_workRam _ hlo hwork)
    by_cases hecho : a.toNat < 0xFE00
    · exact .inr (.inl (regionOf_eq_echoRam _ (by omega) hecho))
    · exact .inr (.inr (regionOf_eq_oam _ (by omega) hhi))
  · refine busRead_busWrite_plainIo v hraw ?_ (by simp only [List.mem_cons, List.not_mem_nil, or_false]; omega)
    rw [regionOf_above_p1 _ (by omega), if_neg (by omega)]
  · exact busRead_busWrite_externalRam v hbanks (regionOf_eq_externalRam _ hlo hhi) hen
  · refine busRead_busWrite_plainIo v hraw ?_ hreg
    rw [regionOf_above_p1 _ hlo, if_neg fun h => hstub h.2]

/-! ### Writes that are dropped (R73, R76, R80, R89) -/

/-- What a write below 0x8000 can change: the controller's registers (R89). -/
theorem busWrite_command_eq (a : Word) (v : Byte) (s : State) (h : a.toNat < 0x8000) : busWrite a v s =
    { s with
      romBank := (busWrite a v s).romBank, ramBank := (busWrite a v s).ramBank,
      ramEnabled := (busWrite a v s).ramEnabled, romBankingMode := (busWrite a v s).romBankingMode } := by
  rw [busWrite_command a v s h]
  exact mbcWrite_eq a.toNat v s

/-- A read of ROM bank 0 is of `Raw` (R73). -/
theorem busRead_romBank0 (s : State) {x : Word} (h : x.toNat < 0x4000) : busRead s x = s.rawRead x.toNat :=
  busRead_region (regionOf_eq_romBank0 s.params h)

/-- Settles O35: a command changes the controller's registers only, and the two other regions have no storage to write. -/
theorem droppedWrites : Obligations.DroppedWrites := by
  intro s a x v
  refine ⟨fun ha hfam => ?_, busWrite_command_eq a v s, fun ha hx => ?_, fun ⟨hlo, hhi⟩ => ?_, fun ⟨hlo, hhi⟩ hoff => ?_⟩
  · rw [busWrite_command a v s ha, mbcWrite, hfam]
  · rw [busRead_romBank0 _ hx, busRead_romBank0 _ hx, busWrite_command_eq a v s ha]
    rfl
  · have hr := regionOf_eq_unusable s.params hlo hhi
    exact ⟨busWrite_region v hr, busRead_region hr⟩
  · have hr := regionOf_eq_externalRam s.params hlo hhi
    rw [busWrite_region v hr, busRead_region hr, regionWrite, regionRead, hoff]
    exact ⟨rfl, rfl⟩

/-! ### The bit fields of the bank-switch commands, as naturals -/

/-- A mask of the low `k` bits is a remainder. -/
theorem toNat_and_lowMask {w : Nat} (x m : BitVec w) (k : Nat) (hm : m.toNat = 2 ^ k - 1) :
    (x &&& m).toNat = x.toNat % 2 ^ k := by
  rw [BitVec.toNat_and, hm, Nat.and_two_pow_sub_one_eq_mod]

/-- A masked byte is a given value exactly when the remainder is. -/
theorem and_lowMask_eq_iff {w : Nat} (x m c : BitVec w) (k : Nat) (hm : m.toNat = 2 ^ k - 1) :
    x &&& m = c ↔ x.toNat % 2 ^ k = c.toNat := by
  rw [← BitVec.toNat_inj, toNat_and_lowMask x m k hm]

/-- Two fields that do not overlap are added. -/
theorem high_or_low (h l : Nat) (hl : l < 32) : h * 32 ||| l = h * 32 + l := by
  have := Nat.shiftLeft_add_eq_or_of_lt (show l < 2 ^ 5 from hl) h
  rw [Nat.shiftLeft_eq] at this
  exact this.symm

/-- Bits 6 and 5 of a bank number. -/
theorem toNat_and_bankHigh (b : BitVec 7) : (b &&& 0x60#7).toNat = b.toNat / 32 % 4 * 32 := by
  have hmask : (0x60#7).toNat = 3 <<< 5 := rfl
  have hsplit : b.toNat &&& 3 <<< 5 = (b.toNat >>> 5 &&& 3) <<< 5 := by
    apply Nat.eq_of_testBit_eq
    intro i
    simp only [Nat.testBit_and, Nat.testBit_shiftLeft, Nat.testBit_shiftRight]
    by_cases h : 5 ≤ i
    · simp [h, Nat.add_sub_cancel' h]
    · simp [h]
  rw [BitVec.toNat_and, hmask, hsplit, Nat.shiftLeft_eq, Nat.shiftRight_eq_div_pow,
    Nat.and_two_pow_sub_one_eq_mod _ 2]

/-- MBC1's bank with new low bits (R91). -/
theorem toNat_mbc1Low (b : BitVec 7) (v : Byte) :
    ((b &&& 0x60#7) ||| (v &&& 0x1F).setWidth 7).toNat = b.toNat / 32 % 4 * 32 + v.toNat % 32 := by
  have hlow := toNat_and_lowMask v 0x1F 5 rfl
  rw [BitVec.toNat_or, toNat_and_bankHigh, BitVec.toNat_setWidth, hlow,
    Nat.mod_eq_of_lt (show v.toNat % 2 ^ 5 < 2 ^ 7 by omega)]
  exact high_or_low _ _ (by omega)

/-- MBC1's bank with new high bits (R92). -/
theorem toNat_mbc1High (b : BitVec 7) (v : Byte) :
    ((b &&& 0x1F#7) ||| ((v &&& 0x03) <<< 5).setWidth 7).toNat = b.toNat % 32 + v.toNat % 4 * 32 := by
  have hlow := toNat_and_lowMask b 0x1F#7 5 rfl
  have hhigh := toNat_and_lowMask v 0x03 2 rfl
  rw [BitVec.or_comm, BitVec.toNat_or, hlow, BitVec.toNat_setWidth, BitVec.toNat_shiftLeft, hhigh, Nat.shiftLeft_eq,
    Nat.mod_eq_of_lt (by omega), Nat.mod_eq_of_lt (by omega), Nat.add_comm]
  exact high_or_low _ _ (by omega)

/-! ### The controller's registers after a command (R90 to R97) -/

/-- The bank that is selected, on naturals: bank 0 is remapped to bank 1 (R91). -/
theorem toNat_romBank_setRomBank (k : BitVec 7) (s : State) :
    (setRomBank k s).romBank.toNat = if k.toNat = 0 then 1 else k.toNat := by
  have hzero : k = 0 ↔ k.toNat = 0 := by rw [← BitVec.toNat_inj]; rfl
  rw [setRomBank_romBank, apply_ite BitVec.toNat]
  simp only [hzero]
  rfl

/-- The RAM-enable command writes `ramEnabled` only (R90). -/
theorem ramEnableWrite_eq (v : Byte) (s : State) : ramEnableWrite v s =
    { s with ramEnabled := if v.toNat % 16 = 10 then true else if v.toNat % 16 = 0 then false else s.ramEnabled } := by
  have hten : v &&& 0x0F = 0x0A ↔ v.toNat % 16 = 10 := and_lowMask_eq_iff v 0x0F 0x0A 4 rfl
  have hzero : v &&& 0x0F = 0x00 ↔ v.toNat % 16 = 0 := and_lowMask_eq_iff v 0x0F 0x00 4 rfl
  unfold ramEnableWrite
  simp only [hten, hzero]
  repeat' split
  all_goals rfl

/-- Settles O36: MBC1's four ranges (R90 to R93), each with the register it writes. -/
theorem mbc1 : Obligations.Mbc1 := by
  intro s a v hfam ha
  have hw : busWrite a v s = mbc1Write a.toNat v s := by rw [busWrite_command a v s ha, mbcWrite, hfam]
  refine ⟨_, _, _, _, busWrite_command_eq a v s ha, ?_⟩
  have hone : v &&& 0x01 = 0 ↔ v.toNat % 2 = 0 := and_lowMask_eq_iff v 0x01 0 1 rfl
  rw [hw, mbc1Write]
  dsimp only
  split
  · rw [ramEnableWrite_eq]
    exact ⟨rfl, rfl, rfl, rfl⟩
  split
  · refine ⟨rfl, rfl, rfl, ?_⟩
    rw [toNat_romBank_setRomBank, toNat_mbc1Low]
  split
  · split
    · refine ⟨rfl, rfl, rfl, ?_⟩
      rw [toNat_romBank_setRomBank, toNat_mbc1High]
    · exact ⟨rfl, rfl, rfl, BitVec.toNat_setWidth 2 v⟩
  · simp only [hone]
    split
    · exact ⟨rfl, rfl, (decide_eq_true ‹_›).symm, rfl⟩
    · exact ⟨rfl, rfl, (decide_eq_false ‹_›).symm, rfl⟩

theorem mbc2Write_romBankingMode (n : Nat) (v : Byte) (s : State) :
    (mbc2Write n v s).romBankingMode = s.romBankingMode := by
  unfold mbc2Write ramEnableWrite setRomBank
  repeat' split
  all_goals rfl

theorem mbc3Write_romBankingMode (n : Nat) (v : Byte) (s : State) :
    (mbc3Write n v s).romBankingMode = s.romBankingMode := by
  unfold mbc3Write ramEnableWrite setRomBank
  repeat' split
  all_goals rfl

/-- Settles O37: MBC2's (R94 to R96) and MBC3's (R97) ranges, each with the register it writes. -/
theorem mbc2AndMbc3 : Obligations.Mbc2AndMbc3 := by
  intro s a v hfam ha
  have hw : busWrite a v s = mbcWrite a.toNat v s := busWrite_command a v s ha
  rcases hfam with hfam | hfam <;> rw [mbcWrite, hfam] at hw
  · have hmode : (busWrite a v s).romBankingMode = s.romBankingMode := by rw [hw, mbc2Write_romBankingMode]
    have hbit : a.toNat.testBit 8 = true ↔ a.toNat / 256 % 2 = 1 := by
      rw [Nat.testBit_eq_decide_div_mod_eq, decide_eq_true_iff]
    have h2 : (s.family = .mbc2) = True := eq_true hfam
    have h3 : (s.family = .mbc3) = False := eq_false (by rw [hfam]; decide)
    refine ⟨_, _, _, (busWrite_command_eq a v s ha).trans (by rw [hmode]), ?_⟩
    simp only [h2, h3, true_and, false_and, if_true, if_false]
    rw [hw, mbc2Write]
    simp only [hbit]
    split
    · split
      · exact ⟨rfl, rfl, rfl⟩
      · rw [ramEnableWrite_eq]
        exact ⟨rfl, rfl, rfl⟩
    split
    · refine ⟨rfl, rfl, ?_⟩
      rw [toNat_romBank_setRomBank, BitVec.toNat_setWidth, toNat_and_lowMask v 0x0F 4 rfl, Nat.mod_eq_of_lt (by omega)]
      rfl
    · exact ⟨rfl, rfl, rfl⟩
  · have hmode : (busWrite a v s).romBankingMode = s.romBankingMode := by rw [hw, mbc3Write_romBankingMode]
    have h2 : (s.family = .mbc2) = False := eq_false (by rw [hfam]; decide)
    have h3 : (s.family = .mbc3) = True := eq_true hfam
    have hle : v ≤ 0x03 ↔ v.toNat ≤ 3 := BitVec.le_def
    refine ⟨_, _, _, (busWrite_command_eq a v s ha).trans (by rw [hmode]), ?_⟩
    simp only [h2, h3, true_and, false_and, if_false]
    rw [hw, mbc3Write]
    simp only [hle]
    split
    · rw [ramEnableWrite_eq]
      exact ⟨rfl, rfl, rfl⟩
    split
    · refine ⟨rfl, rfl, ?_⟩
      rw [toNat_romBank_setRomBank, BitVec.toNat_setWidth]
    · by_cases hn : a.toNat < 0x6000 ∧ v.toNat ≤ 3
      · rw [if_pos hn.1, if_pos hn.2, if_pos hn]
        exact ⟨rfl, rfl, (BitVec.toNat_setWidth 2 v).trans (Nat.mod_eq_of_lt (by omega))⟩
      · rw [if_neg hn, ← ite_and, if_neg hn]
        exact ⟨rfl, rfl, rfl⟩

/-! ### The joypad register (R98, R99, R430) -/

theorem regionOf_eq_joypad (p : Params) : regionOf p (0xFF00 : Word).toNat = .joypad := rfl

/-- The high nibble of a masked byte. -/
theorem getLsbD_and_highNibble (v : Byte) (j : Nat) : (v &&& 0xF0).getLsbD j = (decide (4 ≤ j) && v.getLsbD j) := by
  have hmask : ∀ i < 8, (0xF0 : Byte).getLsbD i = decide (4 ≤ i) := by decide
  rw [BitVec.getLsbD_and, Bool.and_comm]
  by_cases hj : j < 8
  · rw [hmask j hj]
  · rw [BitVec.getLsbD_of_ge v j (by omega), Bool.and_false, Bool.and_false]

/-- The low nibble that four drive lines leave: a driven line reads 0. -/
theorem nibble_getLsbD (c0 c1 c2 c3 : Bool) :
    let r : Byte := (if c0 then 0 else 0x01) ||| (if c1 then 0 else 0x02) ||| (if c2 then 0 else 0x04) |||
      (if c3 then 0 else 0x08)
    (r.getLsbD 0 = false ↔ c0 = true) ∧ (r.getLsbD 1 = false ↔ c1 = true) ∧ (r.getLsbD 2 = false ↔ c2 = true) ∧
      (r.getLsbD 3 = false ↔ c3 = true) ∧ r &&& 0xF0 = 0 := by
  revert c0 c1 c2 c3
  decide

/-- A line is driven by a pressed button of a selected group; a group is selected by a 0 (R99). -/
theorem line_driven_iff (p4 dir p5 btn : Bool) :
    (!p4 && dir || !p5 && btn) = true ↔ p4 = false ∧ dir = true ∨ p5 = false ∧ btn = true := by
  simp only [Bool.or_eq_true, Bool.and_eq_true, Bool.not_eq_true']

/-- The low nibble of a P1 read, bit by bit (R99). -/
theorem joypadNibble_getLsbD (p1 : Byte) (k : Buttons) :
    let r := joypadNibble p1 k
    let dirs := p1.getLsbD 4 = false
    let btns := p1.getLsbD 5 = false
    (r.getLsbD 0 = false ↔ dirs ∧ k.right = true ∨ btns ∧ k.a = true) ∧
    (r.getLsbD 1 = false ↔ dirs ∧ k.left = true ∨ btns ∧ k.b = true) ∧
    (r.getLsbD 2 = false ↔ dirs ∧ k.up = true ∨ btns ∧ k.select = true) ∧
    (r.getLsbD 3 = false ↔ dirs ∧ k.down = true ∨ btns ∧ k.start = true) ∧ r &&& 0xF0 = 0 := by
  simp only [← line_driven_iff]
  exact nibble_getLsbD _ _ _ _

/-- What a read of P1 returns, bit by bit (R99). -/
theorem busRead_p1 (s : State) : busRead s 0xFF00 =
    (s.rawRead ioP1 &&& 0xF0) ||| joypadNibble (s.rawRead ioP1) s.pressed :=
  busRead_region (regionOf_eq_joypad s.params)

/-- The low bits of a P1 read are the drive lines' (R99). -/
theorem getLsbD_busRead_p1_low (s : State) {j : Nat} (hj : j < 4) :
    (busRead s 0xFF00).getLsbD j = (joypadNibble (s.rawRead ioP1) s.pressed).getLsbD j := by
  rw [busRead_p1, BitVec.getLsbD_or, getLsbD_and_highNibble, decide_eq_false (by omega), Bool.false_and, Bool.false_or]

/-- The upper bits of a P1 read are the stored ones (R99). -/
theorem getLsbD_busRead_p1_high (s : State) {j : Nat} (hj : 4 ≤ j) :
    (busRead s 0xFF00).getLsbD j = (s.rawRead ioP1).getLsbD j := by
  obtain ⟨-, -, -, -, hzero⟩ := joypadNibble_getLsbD (s.rawRead ioP1) s.pressed
  have hbit := getLsbD_and_highNibble (joypadNibble (s.rawRead ioP1) s.pressed) j
  rw [hzero, decide_eq_true hj, Bool.true_and, show (0 : Byte).getLsbD j = false from BitVec.getLsbD_zero] at hbit
  rw [busRead_p1, BitVec.getLsbD_or, getLsbD_and_highNibble, decide_eq_true hj, ← hbit, Bool.true_and, Bool.or_false]

/-- A button update, with the press of a selected group as the condition of the request (R430). -/
theorem setButtons_eq_ite (new : Buttons) (s : State) : setButtons new s =
    if (s.rawRead ioP1).getLsbD 4 = false ∧ (s.pressed.right = false ∧ new.right = true ∨
          s.pressed.left = false ∧ new.left = true ∨ s.pressed.up = false ∧ new.up = true ∨
          s.pressed.down = false ∧ new.down = true) ∨
        (s.rawRead ioP1).getLsbD 5 = false ∧ (s.pressed.a = false ∧ new.a = true ∨ s.pressed.b = false ∧ new.b = true ∨
          s.pressed.select = false ∧ new.select = true ∨ s.pressed.start = false ∧ new.start = true)
    then { s.rawWrite 0xFF0F (s.rawRead 0xFF0F ||| 0x10) with pressed := new } else { s with pressed := new } := by
  simp only [setButtons, Bool.or_eq_true, Bool.and_eq_true, Bool.not_eq_true', or_assoc, and_comm (b := _ = false)]
  split <;> rfl

/-- Settles O38: a P1 read is its stored nibble and the four drive lines; `setButtons_eq_ite` is the button update. -/
theorem joypad : Obligations.Joypad := by
  intro s v new
  obtain ⟨h0, h1, h2, h3, -⟩ := joypadNibble_getLsbD (s.rawRead ioP1) s.pressed
  refine ⟨fun j => getLsbD_busRead_p1_high s, ?_, ?_, ?_, ?_, busWrite_region v (regionOf_eq_joypad s.params), ?_⟩
  · rwa [getLsbD_busRead_p1_low s (by decide)]
  · rwa [getLsbD_busRead_p1_low s (by decide)]
  · rwa [getLsbD_busRead_p1_low s (by decide)]
  · rwa [getLsbD_busRead_p1_low s (by decide)]
  · exact ⟨fun h => (setButtons_eq_ite new s).trans (if_pos h), fun h => (setButtons_eq_ite new s).trans (if_neg h)⟩

/-! ### The registers that a write treats apart (R100 to R105) -/

/-- A write above P1 is a register write (R72). -/
theorem busWrite_register (a : Word) (v : Byte) (s : State) (h : 0xFF00 < a.toNat) :
    busWrite a v s = registerWrite a.toNat v s := by
  have hr := regionOf_above_p1 s.params h
  split at hr <;> rw [busWrite_region v hr, regionWrite]

/-- A CGB stub that is none of the special registers drops its writes (R105). -/
theorem registerWrite_stub (n : Nat) (v : Byte) (s : State) (h : n ∉ [0xFF04, 0xFF41, 0xFF44, 0xFF45, 0xFF46])
    (hr : regionOf s.params n = .cgbStub) : registerWrite n v s = s := by
  simp only [List.mem_cons, List.not_mem_nil, or_false, not_or] at h
  obtain ⟨hdiv, hstat, hly, hlyc, hdma⟩ := h
  rw [registerWrite, if_neg hdiv, if_neg hstat, if_neg hly, if_neg hlyc, if_neg hdma, if_pos hr]

/-- STAT after the coincidence check: bit 2 says whether LY is LYC (R444). -/
theorem rawRead_stat_checkCoincidence (s : State) (hwf : s.rawWf = true) : (checkCoincidence s).rawRead ioStat =
    if s.rawRead ioLy = s.rawRead ioLyc then s.rawRead ioStat ||| 0x04 else s.rawRead ioStat &&& 0xFB := by
  unfold checkCoincidence
  dsimp only
  split
  · split
    · rw [rawRead_requestInterrupt_other _ _ _ (by decide), rawRead_rawWrite_same s _ _ hwf]
    · exact rawRead_rawWrite_same s _ _ hwf
  · exact rawRead_rawWrite_same s _ _ hwf

/-- IF after the coincidence check: the STAT request, if LY is LYC and STAT asks for it (R444). -/
theorem rawRead_if_checkCoincidence (s : State) (hwf : s.rawWf = true) : (checkCoincidence s).rawRead ioIf =
    if s.rawRead ioLy = s.rawRead ioLyc ∧ (s.rawRead ioStat).getLsbD 6 = true then s.rawRead ioIf ||| 0x02
    else s.rawRead ioIf := by
  have hbit : (s.rawRead ioStat ||| 0x04).getLsbD 6 = (s.rawRead ioStat).getLsbD 6 := by
    rw [BitVec.getLsbD_or]
    exact Bool.or_false _
  unfold checkCoincidence
  dsimp only
  rw [rawRead_rawWrite_same s _ _ hwf, hbit, ite_and]
  split
  · split
    · rw [requestInterrupt, rawRead_rawWrite_same _ _ _ (rawWf_rawWrite s _ _ (by decide) hwf),
        rawRead_rawWrite_other _ _ _ _ (by decide)]
      rfl
    · exact rawRead_rawWrite_other _ _ _ _ (by decide)
  · exact rawRead_rawWrite_other _ _ _ _ (by decide)

/-- Settles O39: the register write of each special register; LYC's is the store and the coincidence check. -/
theorem registerWrites : Obligations.RegisterWrites := by
  intro s a v hset
  refine ⟨busWrite_register 0xFF04 v s (by decide), busWrite_register 0xFF41 v s (by decide), ?_, fun hlo hhi hin => ?_,
    fun hwf => ?_⟩
  · rw [busWrite_register 0xFF44 v s (by decide)]
    cases hly : s.params.lyWrite <;> simp [registerWrite, hly]
  · have hr : regionOf s.params a.toNat = .cgbStub := by rw [regionOf_above_p1 _ hlo, if_pos ⟨hhi, hin⟩]
    rw [busWrite_register a v s hlo, busRead_region hr]
    exact ⟨registerWrite_stub _ v s (fun h => hset _ h hin) hr, rfl⟩
  · obtain ⟨hraw, -⟩ := (memoryWf_iff s).mp hwf
    have hlyc := rawRead_rawWrite_same s ioLyc v hraw
    have hother : ∀ n, n ≠ ioLyc → (s.rawWrite ioLyc v).rawRead n = s.rawRead n := fun n =>
      rawRead_rawWrite_other s ioLyc n v
    have hraw' := rawWf_rawWrite s ioLyc v (by decide) hraw
    have ht : busWrite 0xFF45 v s = checkCoincidence (s.rawWrite ioLyc v) := busWrite_register 0xFF45 v s (by decide)
    dsimp only
    rw [ht]
    refine ⟨?_, ?_, ?_, ?_, fun n h1 h2 h3 => ?_⟩
    · rw [checkCoincidence_eq]; rfl
    · exact (rawRead_checkCoincidence_other _ _ (by decide) (by decide)).trans hlyc
    · rw [rawRead_stat_checkCoincidence _ hraw', hlyc, hother ioLy (by decide), hother ioStat (by decide)]
    · rw [rawRead_if_checkCoincidence _ hraw', hlyc, hother ioLy (by decide), hother ioStat (by decide),
        hother ioIf (by decide)]
    · rw [rawRead_checkCoincidence_other _ _ h2 h3, hother n h1]

/-! ### The OAM DMA (R102) -/

/-- The address of a source byte of the DMA, as the statement writes it. -/
theorem dmaSource_eq (v : Byte) (i : Nat) (hi : i < 0xA0) :
    wordOf 0 v + BitVec.ofNat 16 i = BitVec.ofNat 16 (v.toNat * 256 + i) := by
  apply BitVec.eq_of_toNat_eq
  have hv := v.isLt
  rw [dmaSource_toNat v i (by omega), BitVec.toNat_ofNat, Nat.mod_eq_of_lt (by omega)]

/-- Settles O40: the DMA is the store of DMA and then the copy, whose reads `dmaCopy_reads` gives. -/
theorem oamDma : Obligations.OamDma := by
  intro s v hwf _
  obtain ⟨hraw, -⟩ := (memoryWf_iff s).mp hwf
  have ht : busWrite 0xFF46 v s = dmaCopy (wordOf 0 v) 0xA0 (s.rawWrite ioDma v) := busWrite_register 0xFF46 v s (by decide)
  obtain ⟨-, hother, hcopied⟩ :=
    dmaCopy_reads (s.rawWrite ioDma v) v (rawWf_rawWrite s ioDma v (by decide) hraw) 0xA0 (by omega)
  have heq := dmaCopy_eq (wordOf 0 v) 0xA0 (s.rawWrite ioDma v)
  rw [← ht] at hother hcopied heq
  refine ⟨heq, ?_, fun i hi => ?_, fun n hn hdma => ?_⟩
  · rw [hother _ (by decide)]
    exact rawRead_rawWrite_same s ioDma v hraw
  · rw [hcopied i hi, dmaSource_eq v i hi]
  · rw [hother n hn]
    exact rawRead_rawWrite_other s ioDma n v hdma

end Sys2Proof.Machine
end

section
/-! PROOFS. The frame of every instruction in memory (20_memory.md R72, R87): each shape of a meaning has the frame `Stores` of
the addresses that `storedAt` names. -/

namespace Sys2Proof.Machine

open Sys2Proof

/-! ### What each shape of a meaning stores to (R72, R87) -/

/-- Every next state that the answer gives has the frame of stores to `ws`. -/
def Result.Stores (ws : List Word) (s : State) (r : Result) : Prop := ∀ t, r = .next t → Machine.Stores ws s t

theorem stores_finish {ws : List Word} {s t : State} (n : Nat) (h : Stores ws s t) : Result.Stores ws s (finish n t) :=
  fun _ hf => h.finish n hf

/-- A meaning that only replaces CPU registers stores nothing. -/
theorem stores_cpu {s t : State} {n : Nat} (h : t = { s with
      a := t.a, f := t.f, b := t.b, c := t.c, d := t.d, e := t.e, h := t.h, l := t.l, sp := t.sp, pc := t.pc, ime := t.ime,
      imePend := t.imePend, imePendFresh := t.imePendFresh, halted := t.halted, stopped := t.stopped,
      savedP1 := t.savedP1, savedLcdc := t.savedLcdc, savedTac := t.savedTac, fault := t.fault, cycles := t.cycles }) :
    Result.Stores [] s (finish n t) := stores_finish n (Stores.cpu h)

/-- What stores nothing may follow. -/
theorem Stores.trans_nil {ws : List Word} {s t u : State} (h : Stores ws s t) (k : Stores [] t u) : Stores ws s u := by
  simpa only [List.append_nil] using h.trans k

/-- Moving PC past the instruction's bytes stores nothing. -/
theorem Stores.of_fetched {ws : List Word} {s t : State} (n : Nat) (h : Stores ws (s.fetched n) t) : Stores ws s t :=
  (Stores.cpu (t := s.fetched n) rfl).trans h

/-- A pop after the fetch stores nothing: it moves SP. -/
theorem Stores.of_popped {ws : List Word} {s t : State} (n : Nat) (h : Stores ws (popped (s.fetched n)) t) : Stores ws s t :=
  (Stores.cpu (t := popped (s.fetched n)) rfl).trans h

theorem Stores.setF {ws : List Word} {s t : State} (h : Stores ws s t) (f : Byte) : Stores ws s { t with f := f } :=
  h.trans_nil (Stores.cpu rfl)

theorem Stores.setHl {ws : List Word} {s t : State} (h : Stores ws s t) (w : Word) : Stores ws s (t.setHl w) :=
  h.trans_nil (Stores.setPair t .hl w)

theorem stackTop_fetched (s : State) (n : Nat) : stackTop (s.fetched n) = stackTop s := by
  rw [stackTop, stackTop, fetched_sp]

theorem Stores.fetched_push16 (s : State) (n : Nat) (w : Word) : Stores (stackTop s) s (Machine.push16 w (s.fetched n)) := by
  rw [← stackTop_fetched s n]
  exact Stores.of_fetched n (Stores.push16 w (s.fetched n))

theorem Stores.fetched_callTo (s : State) (n : Nat) (w : Word) : Stores (stackTop s) s (Machine.callTo w (s.fetched n)) :=
  (Stores.fetched_push16 s n (s.fetched n).pc).trans_nil (Stores.cpu rfl)

theorem stores_ldPairFromA (p : Pair) (s : State) : Result.Stores [s.pair p] s (ldPairFromA p s) := by
  have hp : (s.fetched 1).pair p = s.pair p := by cases p <;> rfl
  rw [← hp]
  exact stores_finish 8 (Stores.of_fetched 1 (Stores.busWrite _ _ _))

theorem stores_ldMemHlReg (r : Reg8) (s : State) : Result.Stores [s.hl] s (ldMemHlReg r s) :=
  stores_finish 8 (Stores.of_fetched 1 (Stores.busWrite _ _ _))

theorem stores_execLdMemHlD8 (n : Byte) (s : State) : Result.Stores [s.hl] s (execLdMemHlD8 n s) :=
  stores_finish 12 (Stores.of_fetched 2 (Stores.busWrite _ _ _))

theorem stores_execLdMemA16A (a : Word) (s : State) : Result.Stores [a] s (execLdMemA16A a s) :=
  stores_finish 16 (Stores.of_fetched 3 (Stores.busWrite _ _ _))

theorem stores_execLdhMemA8A (n : Byte) (s : State) : Result.Stores [highPage n] s (execLdhMemA8A n s) :=
  stores_finish 12 (Stores.of_fetched 2 (Stores.busWrite _ _ _))

theorem stores_execLdMemCA (s : State) : Result.Stores [highPage s.c] s (execLdMemCA s) :=
  stores_finish 8 (Stores.of_fetched 1 (Stores.busWrite _ _ _))

theorem stores_execLdMemHlIncA (s : State) : Result.Stores [s.hl] s (execLdMemHlIncA s) :=
  stores_finish 8 ((Stores.of_fetched 1 (Stores.busWrite _ _ _)).setHl _)

theorem stores_execLdMemHlDecA (s : State) : Result.Stores [s.hl] s (execLdMemHlDecA s) :=
  stores_finish 8 ((Stores.of_fetched 1 (Stores.busWrite _ _ _)).setHl _)

theorem stores_execLdMemA16Sp (a : Word) (s : State) : Result.Stores [a, a + 1] s (execLdMemA16Sp a s) :=
  stores_finish 20 (Stores.of_fetched 3 ((Stores.busWrite a _ _).trans (Stores.busWrite (a + 1) _ _)))

theorem stores_execIncMemHl (s : State) : Result.Stores [s.hl] s (execIncMemHl s) :=
  stores_finish 12 ((Stores.of_fetched 1 (Stores.busWrite _ _ _)).setF _)

theorem stores_execDecMemHl (s : State) : Result.Stores [s.hl] s (execDecMemHl s) :=
  stores_finish 12 ((Stores.of_fetched 1 (Stores.busWrite _ _ _)).setF _)

theorem stores_pushPair (p : StackPair) (s : State) : Result.Stores (stackTop s) s (pushPair p s) :=
  stores_finish 16 (Stores.fetched_push16 s 1 _)

theorem stores_execCallA16 (a : Word) (s : State) : Result.Stores (stackTop s) s (execCallA16 a s) :=
  stores_finish 24 (Stores.fetched_callTo s 3 _)

theorem stores_rstTo (y : Nat) (s : State) : Result.Stores (stackTop s) s (rstTo y s) :=
  stores_finish 16 (Stores.fetched_callTo s 1 _)

/-- A call stores only when it is taken (R327). -/
theorem stores_callIf (cc : Cond) (a : Word) (s : State) :
    Result.Stores (if s.cond cc then stackTop s else []) s (callIf cc a s) := by
  have hc : (s.fetched 3).cond cc = s.cond cc := by cases cc <;> rfl
  unfold callIf
  dsimp only
  rw [hc]
  split
  · exact stores_finish 24 (Stores.fetched_callTo s 3 _)
  · exact stores_cpu rfl

theorem stores_jpIf (cc : Cond) (a : Word) (s : State) : Result.Stores [] s (jpIf cc a s) := by
  unfold jpIf
  dsimp only
  split <;> exact stores_cpu rfl

theorem stores_jrIf (cc : Cond) (e : Byte) (s : State) : Result.Stores [] s (jrIf cc e s) := by
  unfold jrIf
  dsimp only
  split <;> exact stores_cpu rfl

theorem stores_retIf (cc : Cond) (s : State) : Result.Stores [] s (retIf cc s) := by
  unfold retIf
  dsimp only
  split <;> exact stores_cpu rfl

theorem stores_unassigned (op : Byte) (s : State) : Result.Stores [] s (unassigned op s) := by
  unfold unassigned
  split
  · intro t ht
    rw [← Host.Outcome.next.inj ht]
    exact Stores.cpu rfl
  · exact stores_cpu rfl

theorem stores_incReg (r : Reg8) (s : State) : Result.Stores [] s (incReg r s) :=
  stores_finish 4 ((Stores.of_fetched 1 (Stores.setReg _ r _)).setF _)

theorem stores_decReg (r : Reg8) (s : State) : Result.Stores [] s (decReg r s) :=
  stores_finish 4 ((Stores.of_fetched 1 (Stores.setReg _ r _)).setF _)

theorem stores_popPair (p : StackPair) (s : State) : Result.Stores [] s (popPair p s) :=
  stores_finish 12 (Stores.of_popped 1 (Stores.setStackPair _ p _))

/-! ### The secondary map (R370) -/

/-- Writing an operand after the fetch stores to HL, if the operand is `(HL)`. -/
theorem Stores.fetched_setOperand (s : State) (o : Operand8) (v : Byte) :
    Stores (if o = .memHl then [s.hl] else []) s ((s.fetched 2).setOperand o v) :=
  Stores.of_fetched 2 (Stores.setOperand (s.fetched 2) o v)

theorem stores_cbShift (op : ShiftOp) (o : Operand8) (s : State) :
    Result.Stores (if o = .memHl then [s.hl] else []) s (cbShift op o s) :=
  stores_finish _ ((Stores.fetched_setOperand s o _).setF _)

theorem stores_cbBit (b : Nat) (o : Operand8) (s : State) : Result.Stores [] s (cbBit b o s) := stores_cpu rfl

theorem stores_cbRes (b : Nat) (o : Operand8) (s : State) :
    Result.Stores (if o = .memHl then [s.hl] else []) s (cbRes b o s) :=
  stores_finish _ (Stores.fetched_setOperand s o _)

theorem stores_cbSet (b : Nat) (o : Operand8) (s : State) :
    Result.Stores (if o = .memHl then [s.hl] else []) s (cbSet b o s) :=
  stores_finish _ (Stores.fetched_setOperand s o _)

/-- The operand code of `(HL)` is 6 (R144). -/
theorem operand8OfCode_eq_memHl (z : Nat) : operand8OfCode z = .memHl ↔ z = 6 := by
  unfold operand8OfCode
  split <;> simp_all

theorem stores_execPrefixCb (c : Byte) (s : State) :
    Result.Stores (if fieldZ c = 6 ∧ fieldX c ≠ 1 then [s.hl] else []) s (execPrefixCb c s) := by
  simp only [execPrefixCb, ← operand8OfCode_eq_memHl]
  by_cases hbit : fieldX c = 1
  · rw [if_neg (fun h => h.2 hbit), hbit]
    exact stores_cbBit _ _ s
  · simp only [ne_eq, hbit, not_false_eq_true, and_true]
    generalize fieldX c = x at hbit
    match x, hbit with
    | 0, _ => exact stores_cbShift _ _ s
    | 1, hbit => exact absurd rfl hbit
    | 2, _ => exact stores_cbRes _ _ s
    | _ + 3, _ => exact stores_cbSet _ _ s

/-! ### Every instruction -/

/-- Every instruction but STOP stores to the addresses of `storedAt`: the storing shapes and the conditional ones by their
lemmas, and every other instruction only replaces CPU registers. -/
theorem exec_stores (i : Instr) (s : State) (hi : i ≠ .stop) : Result.Stores (storedAt i s) s (exec i s) := by
  cases i
  case stop => exact absurd rfl hi
  case ldMemBcA | ldMemDeA => exact stores_ldPairFromA _ s
  case ldMemA16Sp a => exact stores_execLdMemA16Sp a s
  case ldMemHlIncA => exact stores_execLdMemHlIncA s
  case ldMemHlDecA => exact stores_execLdMemHlDecA s
  case incMemHl => exact stores_execIncMemHl s
  case decMemHl => exact stores_execDecMemHl s
  case ldMemHlD8 n => exact stores_execLdMemHlD8 n s
  case ldMemHlB | ldMemHlC | ldMemHlD | ldMemHlE | ldMemHlH | ldMemHlL | ldMemHlA => exact stores_ldMemHlReg _ s
  case ldMemA16A a => exact stores_execLdMemA16A a s
  case ldhMemA8A n => exact stores_execLdhMemA8A n s
  case ldMemCA => exact stores_execLdMemCA s
  case pushBc | pushDe | pushHl | pushAf => exact stores_pushPair _ s
  case callA16 a => exact stores_execCallA16 a s
  case callNzA16 a | callZA16 a | callNcA16 a | callCA16 a => exact stores_callIf _ a s
  case rst00 | rst08 | rst10 | rst18 | rst20 | rst28 | rst30 | rst38 => exact stores_rstTo _ s
  case jpNzA16 a | jpZA16 a | jpNcA16 a | jpCA16 a => exact stores_jpIf _ a s
  case jrNzE8 e | jrZE8 e | jrNcE8 e | jrCE8 e => exact stores_jrIf _ e s
  case retNz | retZ | retNc | retC => exact stores_retIf _ s
  case illegalD3 | illegalDB | illegalDD | illegalE3 | illegalE4 | illegalEB | illegalEC | illegalED | illegalF4 | illegalFC |
      illegalFD => exact stores_unassigned _ s
  case prefixCb c => exact stores_execPrefixCb c s
  case rlcMemHl | rrcMemHl | rlMemHl | rrMemHl | slaMemHl | sraMemHl | swapMemHl | srlMemHl =>
    exact stores_cbShift _ .memHl s
  case res0MemHl | res1MemHl | res2MemHl | res3MemHl | res4MemHl | res5MemHl | res6MemHl | res7MemHl =>
    exact stores_cbRes _ .memHl s
  case set0MemHl | set1MemHl | set2MemHl | set3MemHl | set4MemHl | set5MemHl | set6MemHl | set7MemHl =>
    exact stores_cbSet _ .memHl s
  case incB | incC | incD | incE | incH | incL | incA => exact stores_incReg _ s
  case decB | decC | decD | decE | decH | decL | decA => exact stores_decReg _ s
  case popBc | popDe | popHl | popAf => exact stores_popPair _ s
  case rlcB | rlcC | rlcD | rlcE | rlcH | rlcL | rlcA | rrcB | rrcC | rrcD | rrcE | rrcH | rrcL | rrcA | rlB | rlC |
      rlD | rlE | rlH | rlL | rlA | rrB | rrC | rrD | rrE | rrH | rrL | rrA | slaB | slaC | slaD | slaE | slaH |
      slaL | slaA | sraB | sraC | sraD | sraE | sraH | sraL | sraA | swapB | swapC | swapD | swapE | swapH | swapL |
      swapA | srlB | srlC | srlD | srlE | srlH | srlL | srlA =>
    exact stores_cbShift _ (.reg _) s
  all_goals exact stores_cpu (by rfl)

/-- Settles O32: `exec_stores`, whose `Stores` is the frame that the statement asks for. -/
theorem memoryFrame : Obligations.MemoryFrame := fun i s t hi hexec => exec_stores i s hi t hexec

end Sys2Proof.Machine
end

section
/-! PROOFS. The statements about the encoding (30_encoding.md): decoding and encoding undo each other, by the two opcode
maps. -/

namespace Sys2Proof

/-! ### The opcode maps as rows (R149, R151) -/

/-- The rows of the primary map, by the high nibble of the opcode. -/
def primaryRows : List (List PrimaryEntry) :=
  [primaryRow0, primaryRow1, primaryRow2, primaryRow3, primaryRow4, primaryRow5, primaryRow6, primaryRow7,
   primaryRow8, primaryRow9, primaryRowA, primaryRowB, primaryRowC, primaryRowD, primaryRowE, primaryRowF]

/-- The rows of the secondary map, by the high nibble of the byte after 0xCB. -/
def secondaryRows : List (List Instr) :=
  [secondaryRow0, secondaryRow1, secondaryRow2, secondaryRow3, secondaryRow4, secondaryRow5, secondaryRow6, secondaryRow7,
   secondaryRow8, secondaryRow9, secondaryRowA, secondaryRowB, secondaryRowC, secondaryRowD, secondaryRowE, secondaryRowF]

theorem primaryTable_eq_flatten : primaryTable = primaryRows.flatten := by
  simp only [primaryTable, primaryRows, List.flatten_cons, List.flatten_nil, List.append_nil, List.append_assoc]

theorem secondaryTable_eq_flatten : secondaryTable = secondaryRows.flatten := by
  simp only [secondaryTable, secondaryRows, List.flatten_cons, List.flatten_nil, List.append_nil, List.append_assoc]

theorem decodeBytes_cb (c b2 : Byte) : decodeBytes 0xCB c b2 = decodeSecondary c := rfl

/-- The instruction that the rows of the maps hold: the form of `decodeBytes` in which a look-up is cheap to evaluate. -/
def decodeByRows (op b1 b2 : Byte) : Instr :=
  if op = 0xCB then secondaryRows.flatten.getD b1.toNat .nop
  else primaryRows.flatten.getD op.toNat (fun _ _ => .nop) b1 b2

theorem decodeBytes_eq_decodeByRows (op b1 b2 : Byte) : decodeBytes op b1 b2 = decodeByRows op b1 b2 := by
  unfold decodeByRows
  split
  case isTrue hop => rw [hop, decodeBytes_cb, decodeSecondary, secondaryTable_eq_flatten]
  case isFalse => rw [decodeBytes, primaryTable_eq_flatten]

/-! ### Decoding what was encoded -/

/-- The instruction at the start of a list of bytes; the bytes past the end of the list are read as 0. -/
def decodeHead (bytes : List Byte) : Instr := decodeBytes (bytes.getD 0 0) (bytes.getD 1 0) (bytes.getD 2 0)

/-- Decoding a list that begins with `bytes`, if these are as many as the first of them says (R140). -/
theorem decode_append {bytes : List Byte} (rest : List Byte) (hlen : bytes.length = opLength (bytes.headD 0)) :
    decode (bytes ++ rest) = .ok (decodeHead (bytes ++ rest), rest) := by
  cases bytes with
  | nil => exact absurd hlen (by decide)
  | cons op tail =>
    have htail : opLength op = tail.length + 1 := hlen.symm
    have hlong : ¬ (tail ++ rest).length + 1 < opLength op := by rw [List.length_append]; omega
    have hdrop : (tail ++ rest).drop (opLength op - 1) = rest := by
      rw [htail, Nat.add_sub_cancel, List.drop_left]
    rw [List.cons_append, decode, if_neg hlong, hdrop]
    rfl

/-- The per-instruction family `EncodedLength`, for every instruction at once. -/
theorem encode_length (i : Instr) : Laws.EncodedLength.Statement i := by
  cases i <;> rfl

/-- The bytes of a well-formed instruction select its entry of the maps, and an operand word is put together again from its
two bytes. -/
theorem decodeHead_encode {i : Instr} (hi : i.wellFormed = true) (rest : List Byte) : decodeHead (encode i ++ rest) = i := by
  rw [decodeHead, decodeBytes_eq_decodeByRows]
  cases i
  case prefixCb => exact absurd hi Bool.false_ne_true
  case ldBcD16 w | ldDeD16 w | ldHlD16 w | ldSpD16 w | ldMemA16Sp w | ldMemA16A w | ldAMemA16 w | jpA16 w | jpNzA16 w |
      jpZA16 w | jpNcA16 w | jpCA16 w | callA16 w | callNzA16 w | callZA16 w | callNcA16 w | callCA16 w =>
    exact congrArg _ (wordOf_low_high w)
  all_goals rfl

/-- Settles O59: an encoding is as long as its opcode byte says, so `decode` takes it whole (`decode_append`), and its bytes
select the instruction again (`decodeHead_encode`). -/
theorem decodeEncode : Obligations.DecodeEncode := fun i rest hi => by
  rw [decode_append rest (encode_length i), decodeHead_encode hi rest]

/-! ### Encoding what was decoded -/

/-- The secondary map, encoded, is 0xCB before each byte in turn (R151). -/
theorem secondaryTable_map_encode :
    secondaryTable.map encode = (List.range 256).map fun n => [0xCB, BitVec.ofNat 8 n] := by
  decide +kernel

/-- A byte's entry of a table of 256 entries is one of the table's. -/
theorem getD_byte_mem {α : Type} {table : List α} (hlen : table.length = 256) (b : Byte) (d : α) :
    table.getD b.toNat d ∈ table := by
  rw [List.getD_eq_getElem _ _ (hlen ▸ b.isLt)]
  exact List.getElem_mem _

theorem getD_map_range_byte {α : Type} (g : Byte → α) (op : Byte) (d : α) :
    ((List.range 256).map fun n => g (BitVec.ofNat 8 n)).getD op.toNat d = g op := by
  rw [List.getD_eq_getElem _ _ (by rw [List.length_map, List.length_range]; exact op.isLt), List.getElem_map,
    List.getElem_range, BitVec.ofNat_toNat, BitVec.setWidth_eq]

theorem encode_decodeSecondary (c : Byte) : encode (decodeSecondary c) = [0xCB, c] := by
  rw [decodeSecondary, ← List.getD_map _ _ encode, secondaryTable_map_encode]
  exact getD_map_range_byte (fun c => [0xCB, c]) c _

theorem wellFormed_decodeSecondary (c : Byte) : (decodeSecondary c).wellFormed = true := by
  have htable : ∀ i ∈ secondaryTable, i.wellFormed = true := by decide +kernel
  exact htable _ (getD_byte_mem (by decide +kernel) c _)

/-- The bytes that an entry of the primary map encodes to, by the opcode's length (R153): an operand word is taken apart
again, and the byte after 0xCB belongs to the secondary map. -/
def primaryBytes (op b1 b2 : Byte) : List Byte :=
  if op = 0xCB then encode (decodeSecondary b1)
  else if op = 0x10 then [0x10, 0x00]
  else match opLength op with
    | 1 => [op]
    | 2 => [op, b1]
    | _ => [op, lowByte (wordOf b1 b2), highByte (wordOf b1 b2)]

/-- The primary map, encoded row by row, is each opcode byte with the operand bytes of its length (R149). -/
theorem primaryRows_map_encode (b1 b2 : Byte) :
    primaryRows.map (List.map fun entry => encode (entry b1 b2)) =
      (List.range 16).map fun k => (List.range 16).map fun j => primaryBytes (BitVec.ofNat 8 (16 * k + j)) b1 b2 := by
  rfl

/-- Rows of one width, put one after the other. -/
theorem flatten_map_range {α : Type} (g : Nat → α) (m w : Nat) :
    ((List.range m).map fun k => (List.range w).map fun j => g (w * k + j)).flatten = (List.range (w * m)).map g := by
  induction m with
  | zero => rfl
  | succ m ih =>
    rw [List.range_succ, List.map_append, List.flatten_append, ih, Nat.mul_succ, List.range_add, List.map_append,
      List.map_map]
    simp only [List.map_cons, List.map_nil, List.flatten_cons, List.flatten_nil, List.append_nil]
    rfl

theorem encode_decodeBytes_eq_primaryBytes (op b1 b2 : Byte) : encode (decodeBytes op b1 b2) = primaryBytes op b1 b2 := by
  have hrows : (primaryTable.map fun entry => encode (entry b1 b2)) =
      (List.range 256).map fun n => primaryBytes (BitVec.ofNat 8 n) b1 b2 := by
    rw [primaryTable_eq_flatten, List.map_flatten, primaryRows_map_encode]
    exact flatten_map_range (fun n => primaryBytes (BitVec.ofNat 8 n) b1 b2) 16 16
  calc encode (decodeBytes op b1 b2)
    _ = (primaryTable.map fun entry => encode (entry b1 b2)).getD op.toNat (encode .nop) :=
      (List.getD_map _ _ fun entry : PrimaryEntry => encode (entry b1 b2)).symm
    _ = primaryBytes op b1 b2 := by
      rw [hrows]
      exact getD_map_range_byte (primaryBytes · b1 b2) op _

theorem opLength_cases (op : Byte) : opLength op = 1 ∨ opLength op = 2 ∨ opLength op = 3 := by
  have htable : ∀ n ∈ lengthTable, n = 1 ∨ n = 2 ∨ n = 3 := by decide +kernel
  exact htable _ (getD_byte_mem (by decide +kernel) op _)

/-- A decoded word operand is encoded as the bytes it came from, and so is a secondary instruction. -/
theorem encode_decodeBytes (op b1 b2 : Byte) : encode (decodeBytes op b1 b2) =
    if op = 0x10 then [0x10, 0x00] else [op, b1, b2].take (opLength op) := by
  rw [encode_decodeBytes_eq_primaryBytes, primaryBytes, lowByte_wordOf, highByte_wordOf]
  split
  case isTrue hop =>
    subst hop
    exact encode_decodeSecondary b1
  case isFalse =>
    rcases opLength_cases op with h | h | h <;> rw [h] <;> rfl

theorem headD_encode_decodeBytes (op b1 b2 : Byte) : (encode (decodeBytes op b1 b2)).headD 0 = op := by
  rw [encode_decodeBytes]
  split
  case isTrue hop => exact hop.symm
  case isFalse =>
    rcases opLength_cases op with h | h | h <;> rw [h] <;> rfl

theorem eq_prefixCb_of_not_wellFormed {i : Instr} (hi : ¬ i.wellFormed = true) : ∃ c, i = .prefixCb c := by
  unfold Instr.wellFormed at hi
  split at hi
  · exact ⟨_, rfl⟩
  · exact absurd rfl hi

/-- The encoding of `PREFIX CB` begins with 0xCB, and after 0xCB a byte decodes to its own secondary instruction. -/
theorem wellFormed_decodeBytes (op b1 b2 : Byte) : (decodeBytes op b1 b2).wellFormed = true := by
  by_contra hi
  obtain ⟨c, hc⟩ := eq_prefixCb_of_not_wellFormed hi
  have hop : 0xCB = op := by
    rw [← headD_encode_decodeBytes op b1 b2, hc]
    rfl
  subst hop
  exact hi (wellFormed_decodeSecondary b1)

/-- Settles O60: each map, encoded, is its own opcode bytes (`encode_decodeBytes`), and no entry is `PREFIX CB`
(`wellFormed_decodeBytes`). -/
theorem encodeDecode : Obligations.EncodeDecode := fun op b1 b2 =>
  ⟨encode_decodeBytes op b1 b2, wellFormed_decodeBytes op b1 b2⟩

/-! ### Words written out from the encodings -/

/-- Settles O58: `decode` evaluates to the named instruction on each of the thirteen words. -/
theorem decodeWords : Obligations.DecodeWords :=
  ⟨rfl, rfl, rfl, rfl, rfl, rfl, rfl, rfl, rfl, rfl, rfl, rfl, rfl⟩

end Sys2Proof
end

section
/-! PROOFS. The statements about loads, stores and the stack (40_loads.md): each family's instruction is its shared shape, and
each shape, after the fetch, is its operation on the state before the fetch. -/

namespace Sys2Proof.Machine

open Sys2Proof

/-! ### Operations after the fetch (R141) -/

/-- Finishing from a state whose PC has been moved past the instruction's bytes. -/
theorem finish_fetched (n k : Nat) (t : State) :
    finish n (t.fetched k) = .next { t with pc := t.pc + BitVec.ofNat 16 k, cycles := n } := rfl

theorem reg_fetched (s : State) (k : Nat) (r : Reg8) : (s.fetched k).reg r = s.reg r := by
  cases r <;> rfl

theorem stackPair_fetched (s : State) (k : Nat) (p : StackPair) : (s.fetched k).stackPair p = s.stackPair p := by
  cases p <;> rfl

/-- A register write after the fetch. -/
theorem finish_setReg (n k : Nat) (s : State) (r : Reg8) (v : Byte) :
    finish n ((s.fetched k).setReg r v) =
      .next { s.setReg r v with pc := s.pc + BitVec.ofNat 16 k, cycles := n } := by
  cases r <;> rfl

/-- A write of A after the fetch, and then a write of HL. -/
theorem finish_setHl_setA (n k : Nat) (s : State) (v : Byte) (w : Word) :
    finish n (State.setHl { s.fetched k with a := v } w) =
      .next { s.setHl w with a := v, pc := s.pc + BitVec.ofNat 16 k, cycles := n } := rfl

/-- A pair write after the fetch. -/
theorem finish_setPair (n k : Nat) (s : State) (p : Pair) (v : Word) :
    finish n ((s.fetched k).setPair p v) =
      .next { s.setPair p v with pc := s.pc + BitVec.ofNat 16 k, cycles := n } := by
  cases p <;> rfl

/-- A stack-pair write after the fetch and the pop's move of SP. -/
theorem finish_setStackPair (n k : Nat) (s : State) (p : StackPair) (v : Word) :
    finish n ((popped (s.fetched k)).setStackPair p v) =
      .next { s.setStackPair p v with sp := s.sp + 2, pc := s.pc + BitVec.ofNat 16 k, cycles := n } := by
  cases p <;> rfl

/-- A store does not look at PC. -/
theorem busWrite_fetched (a : Word) (v : Byte) (s : State) (k : Nat) :
    busWrite a v (s.fetched k) = (busWrite a v s).fetched k := by
  rw [State.fetched, busWrite_atPc, State.fetched, busWrite_pc]

/-- A store after the fetch. -/
theorem finish_busWrite (n k : Nat) (a : Word) (v : Byte) (s : State) :
    finish n (busWrite a v (s.fetched k)) =
      .next { busWrite a v s with pc := s.pc + BitVec.ofNat 16 k, cycles := n } := by
  rw [busWrite_fetched, finish_fetched, busWrite_pc]

/-- A store after the fetch, and then a write of HL. -/
theorem finish_setHl_busWrite (n k : Nat) (a w : Word) (v : Byte) (s : State) :
    finish n ((busWrite a v (s.fetched k)).setHl w) =
      .next { (busWrite a v s).setHl w with pc := s.pc + BitVec.ofNat 16 k, cycles := n } := by
  rw [busWrite_fetched, ← busWrite_pc a v s]
  rfl

/-- A store of a word after the fetch: the low byte first (R84, R85). -/
theorem finish_busWrite16 (n k : Nat) (a w : Word) (s : State) :
    finish n (busWrite16 a w (s.fetched k)) =
      .next { busWrite (a + 1) (highByte w) (busWrite a (lowByte w) s) with
        pc := s.pc + BitVec.ofNat 16 k, cycles := n } := by
  rw [busWrite16, busWrite_fetched, finish_busWrite, busWrite_pc]

/-- A push after the fetch: the high byte first (R85). -/
theorem finish_push16 (n k : Nat) (w : Word) (s : State) :
    finish n (push16 w (s.fetched k)) =
      .next { busWrite (s.sp - 2) (lowByte w) (busWrite (s.sp - 1) (highByte w) s) with
        sp := s.sp - 2, pc := s.pc + BitVec.ofNat 16 k, cycles := n } := by
  rw [State.fetched, push16_atPc]
  rfl

/-- Writing a register with its own value changes nothing. -/
theorem setReg_reg_self (s : State) (r : Reg8) : s.setReg r (s.reg r) = s := by
  cases r <;> rfl

/-- The high page begins at 0xFF00 (R200). -/
theorem highPage_eq (n : Byte) : highPage n = 0xFF00 + n.setWidth 16 := by
  have hval := wordOf_toNat n 0xFF
  unfold highPage
  bv_omega

/-! ### The families of 40_loads.md: encodings and shapes -/

theorem decodeBytes_loadReg (dst src : Reg8) (b1 b2 : Byte) :
    decodeBytes (BitVec.ofNat 8 (0x40 + 8 * dst.code + src.code)) b1 b2 = loadReg dst src := by
  cases dst <;> cases src <;> rfl

theorem exec_loadReg (dst src : Reg8) (s : State) : exec (loadReg dst src) s = ldRegReg dst src s := by
  cases dst <;> cases src <;> rfl

theorem decodeBytes_loadRegMemHl (r : Reg8) (b1 b2 : Byte) :
    decodeBytes (BitVec.ofNat 8 (0x46 + 8 * r.code)) b1 b2 = loadRegMemHl r := by
  cases r <;> rfl

theorem exec_loadRegMemHl (r : Reg8) (s : State) : exec (loadRegMemHl r) s = ldRegMemHl r s := by
  cases r <;> rfl

theorem decodeBytes_storeMemHl (r : Reg8) (b1 b2 : Byte) :
    decodeBytes (BitVec.ofNat 8 (0x70 + r.code)) b1 b2 = storeMemHl r := by
  cases r <;> rfl

theorem exec_storeMemHl (r : Reg8) (s : State) : exec (storeMemHl r) s = ldMemHlReg r s := by
  cases r <;> rfl

theorem decodeBytes_loadImm (r : Reg8) (n b2 : Byte) :
    decodeBytes (BitVec.ofNat 8 (0x06 + 8 * r.code)) n b2 = loadImm r n := by
  cases r <;> rfl

theorem exec_loadImm (r : Reg8) (n : Byte) (s : State) : exec (loadImm r n) s = ldRegImm r n s := by
  cases r <;> rfl

theorem decodeBytes_loadPairImm (p : Pair) (lo hi : Byte) :
    decodeBytes (BitVec.ofNat 8 (0x01 + 16 * p.code)) lo hi = loadPairImm p (wordOf lo hi) := by
  cases p <;> rfl

theorem exec_loadPairImm (p : Pair) (d : Word) (s : State) : exec (loadPairImm p d) s = ldPairImm p d s := by
  cases p <;> rfl

theorem decodeBytes_pushOf (p : StackPair) (b1 b2 : Byte) :
    decodeBytes (BitVec.ofNat 8 (0xC5 + 16 * p.code)) b1 b2 = pushOf p := by
  cases p <;> rfl

theorem exec_pushOf (p : StackPair) (s : State) : exec (pushOf p) s = pushPair p s := by
  cases p <;> rfl

theorem decodeBytes_popOf (p : StackPair) (b1 b2 : Byte) :
    decodeBytes (BitVec.ofNat 8 (0xC1 + 16 * p.code)) b1 b2 = popOf p := by
  cases p <;> rfl

theorem exec_popOf (p : StackPair) (s : State) : exec (popOf p) s = popPair p s := by
  cases p <;> rfl

/-! ### Register loads, immediates and HL (R201 to R205, R220, R222) -/

theorem ldRegReg_eq (dst src : Reg8) (s : State) :
    ldRegReg dst src s = .next { s.setReg dst (s.reg src) with pc := s.pc + 1, cycles := 4 } := by
  rw [ldRegReg, reg_fetched]
  exact finish_setReg 4 1 s dst _

/-- Settles O2: every `LD r,r'` is `ldRegReg` (`exec_loadReg`), a register write after the fetch; a register written with its
own value stays as it was. -/
theorem loadRegister : Obligations.LoadRegister := by
  intro dst src s b1 b2
  have hexec := (exec_loadReg dst src s).trans (ldRegReg_eq dst src s)
  refine ⟨decodeBytes_loadReg dst src b1 b2, hexec, fun hsame => ?_⟩
  rw [hexec, hsame, setReg_reg_self]

/-- Settles O3: the fetch moves neither HL nor what the bus reads, and a store commutes with it (`finish_busWrite`). -/
theorem hlLoadsAndStores : Obligations.HlLoadsAndStores := by
  intro r n s b1 b2
  refine ⟨decodeBytes_loadRegMemHl r b1 b2, ?_, decodeBytes_storeMemHl r b1 b2, ?_, rfl, ?_⟩
  · rw [exec_loadRegMemHl]
    exact finish_setReg 8 1 s r (busRead s s.hl)
  · rw [exec_storeMemHl, ldMemHlReg, reg_fetched]
    exact finish_busWrite 8 1 s.hl (s.reg r) s
  · exact finish_busWrite 12 2 s.hl n s

/-- Settles O4: a register, a pair or SP is written after the fetch of the immediate. -/
theorem loadImmediate : Obligations.LoadImmediate := by
  intro r p n lo hi b1 b2 d s
  refine ⟨decodeBytes_loadImm r n b2, ?_, decodeBytes_loadPairImm p lo hi, ?_, rfl, ?_⟩
  · rw [exec_loadImm]
    exact finish_setReg 8 2 s r n
  · rw [exec_loadPairImm]
    exact finish_setPair 12 3 s p d
  · exact finish_setPair 8 1 s .sp s.hl

/-! ### Loads and stores of A (R206 to R219) -/

/-- Settles O5: a read does not look at PC; `highPage_eq` is the address of the high-page forms. -/
theorem loadAccumulator : Obligations.LoadAccumulator := by
  intro a n lo hi b1 b2 s
  simp only [← highPage_eq]
  exact ⟨rfl, finish_setReg 8 1 s .a (busRead s s.bc), rfl, finish_setReg 8 1 s .a (busRead s s.de),
    rfl, finish_setReg 16 3 s .a (busRead s a), rfl, finish_setReg 12 2 s .a (busRead s (highPage n)),
    rfl, finish_setReg 8 1 s .a (busRead s (highPage s.c)),
    rfl, finish_setHl_setA 8 1 s (busRead s s.hl) (s.hl + 1),
    rfl, finish_setHl_setA 8 1 s (busRead s s.hl) (s.hl - 1)⟩

/-- Settles O6: a store commutes with the fetch (`finish_busWrite`), and HL is written after it. -/
theorem storeAccumulator : Obligations.StoreAccumulator := by
  intro a n lo hi b1 b2 s
  simp only [← highPage_eq]
  exact ⟨rfl, finish_busWrite 8 1 s.bc s.a s, rfl, finish_busWrite 8 1 s.de s.a s, rfl, finish_busWrite 16 3 a s.a s,
    rfl, finish_busWrite 12 2 (highPage n) s.a s, rfl, finish_busWrite 8 1 (highPage s.c) s.a s,
    rfl, finish_setHl_busWrite 8 1 s.hl (s.hl + 1) s.a s, rfl, finish_setHl_busWrite 8 1 s.hl (s.hl - 1) s.a s⟩

/-! ### SP and the stack (R221, R223 to R225) -/

/-- Settles O7: the two writes of `busWrite16`, each of which commutes with the fetch. -/
theorem storeStackPointer : Obligations.StoreStackPointer := fun a _ _ s =>
  ⟨rfl, finish_busWrite16 20 3 a s.sp s⟩

/-- Settles O8: a push is its two writes in order (`finish_push16`), and the fetch leaves the pair as it was. -/
theorem Loads.pushPair : Obligations.PushPair := by
  intro p s b1 b2
  refine ⟨decodeBytes_pushOf p b1 b2, ?_⟩
  rw [exec_pushOf, Machine.pushPair, stackPair_fetched]
  exact finish_push16 16 1 (s.stackPair p) s

/-- A pop writes the pair with the word that the bus shows at SP: the fetch does not move SP. -/
theorem popPair_eq (p : StackPair) (s : State) : popPair p s =
    .next { s.setStackPair p (popValue s) with sp := s.sp + 2, pc := s.pc + 1, cycles := 12 } :=
  finish_setStackPair 12 1 s p (popValue s)

/-- Settles O9: the popped word's halves are the two bytes that were read, for each of the four pairs. -/
theorem Loads.popPair : Obligations.PopPair := by
  intro p s b1 b2
  refine ⟨decodeBytes_popOf p b1 b2, ?_, ?_, ?_, ?_⟩
  all_goals simp only [exec_popOf, popPair_eq, popValue, State.setStackPair, State.setHl, highByte_wordOf,
    lowByte_wordOf]

end Sys2Proof.Machine
end

section
/-! PROOFS. The statements about 8-bit arithmetic and logic (41_alu8.md): what each computation's value is on exact naturals
and which flags it sets, and then each family's instruction as its shared shape. -/

namespace Sys2Proof.Machine

open Sys2Proof

/-! ### The encodings (R250, R259 to R262) -/

theorem decodeBytes_aluOf_reg (op : AluOp) (r : Reg8) (b1 b2 : Byte) :
    decodeBytes (BitVec.ofNat 8 (0x80 + 8 * op.code + r.code)) b1 b2 = aluOf op (.reg r) := by
  cases op <;> cases r <;> rfl

theorem decodeBytes_aluOf_memHl (op : AluOp) (b1 b2 : Byte) :
    decodeBytes (BitVec.ofNat 8 (0x80 + 8 * op.code + 6)) b1 b2 = aluOf op .memHl := by
  cases op <;> rfl

theorem decodeBytes_aluOf_imm (op : AluOp) (n b2 : Byte) :
    decodeBytes (BitVec.ofNat 8 (0xC6 + 8 * op.code)) n b2 = aluOf op (.imm n) := by
  cases op <;> rfl

theorem decodeBytes_incOf (o : Operand8) (b1 b2 : Byte) :
    decodeBytes (BitVec.ofNat 8 (0x04 + 8 * o.code)) b1 b2 = incOf o := by
  cases o with
  | reg r => cases r <;> rfl
  | memHl => rfl

theorem decodeBytes_decOf (o : Operand8) (b1 b2 : Byte) :
    decodeBytes (BitVec.ofNat 8 (0x05 + 8 * o.code)) b1 b2 = decOf o := by
  cases o with
  | reg r => cases r <;> rfl
  | memHl => rfl

/-! ### The shared shapes, as next states -/

theorem exec_aluOf (op : AluOp) (src : AluSource) (s : State) : exec (aluOf op src) s = aluWith op src s := by
  cases src with
  | reg r => cases op <;> cases r <;> rfl
  | memHl => cases op <;> rfl
  | imm n => cases op <;> rfl

theorem exec_incOf_reg (r : Reg8) (s : State) : exec (incOf (.reg r)) s = incReg r s := by
  cases r <;> rfl

theorem exec_decOf_reg (r : Reg8) (s : State) : exec (decOf (.reg r)) s = decReg r s := by
  cases r <;> rfl

theorem aluSource_fetched (s : State) (k : Nat) (src : AluSource) : (s.fetched k).aluSource src = s.aluSource src := by
  cases src with
  | reg r => exact reg_fetched s k r
  | memHl => rfl
  | imm n => rfl

/-- An ALU operation writes its result to A and its flags to F, and moves PC past its bytes (R250). -/
theorem exec_aluOf_eq (op : AluOp) (src : AluSource) (s : State) :
    exec (aluOf op src) s =
      .next { s with
        a := (aluCompute op s.params.subHalfCarry s.a (s.aluSource src) s.flagC).value,
        f := (aluCompute op s.params.subHalfCarry s.a (s.aluSource src) s.flagC).flags,
        pc := s.pc + BitVec.ofNat 16 src.length, cycles := src.cost } := by
  rw [exec_aluOf, aluWith, aluSource_fetched]
  rfl

/-- A register write with flags after the fetch. -/
theorem finish_setReg_flags (n k : Nat) (s : State) (r : Reg8) (v f : Byte) :
    finish n { (s.fetched k).setReg r v with f := f } =
      .next { s.setReg r v with f := f, pc := s.pc + BitVec.ofNat 16 k, cycles := n } := by
  cases r <;> rfl

/-- A store with flags after the fetch. -/
theorem finish_busWrite_flags (n k : Nat) (a : Word) (s : State) (v f : Byte) :
    finish n { busWrite a v (s.fetched k) with f := f } =
      .next { busWrite a v s with f := f, pc := s.pc + BitVec.ofNat 16 k, cycles := n } := by
  rw [busWrite_fetched, ← busWrite_pc a v s]
  rfl

theorem exec_incOf_reg_eq (r : Reg8) (s : State) :
    exec (incOf (.reg r)) s =
      .next { s.setReg r (incByte (s.reg r) s.flagC).value with
        f := (incByte (s.reg r) s.flagC).flags, pc := s.pc + 1, cycles := 4 } := by
  rw [exec_incOf_reg, incReg, reg_fetched]
  exact finish_setReg_flags 4 1 s r _ _

theorem exec_decOf_reg_eq (r : Reg8) (s : State) :
    exec (decOf (.reg r)) s =
      .next { s.setReg r (decByte (s.reg r) s.flagC).value with
        f := (decByte (s.reg r) s.flagC).flags, pc := s.pc + 1, cycles := 4 } := by
  rw [exec_decOf_reg, decReg, reg_fetched]
  exact finish_setReg_flags 4 1 s r _ _

theorem flagC_toNat (s : State) : s.flagC.toNat = if s.f.getLsbD 4 then 1 else 0 :=
  Bool.cond_eq_ite s.flagC 1 0

/-! ### ADD, ADC, SUB, SBC and CP on exact naturals (R251 to R254, R258) -/

theorem addBytes_toNat (a b : Byte) (cin : Bool) :
    (addBytes a b cin).value.toNat = (a.toNat + b.toNat + cin.toNat) % 256 :=
  BitVec.toNat_ofNat _ 8

theorem flagsAre_addBytes (a b : Byte) (cin : Bool) :
    FlagsAre (addBytes a b cin).flags ((addBytes a b cin).value = 0) False
      (a.toNat % 16 + b.toNat % 16 + cin.toNat > 15) (a.toNat + b.toNat + cin.toNat > 255) := by
  refine flagsAre_packFlags ?_ (iff_false_intro Bool.false_ne_true) decide_eq_true_iff decide_eq_true_iff
  rw [beq_iff_eq, ← BitVec.toNat_inj, addBytes_toNat]
  rfl

theorem subBytes_toNat (m : SubHalfCarry) (a b : Byte) (bin : Bool) :
    (subBytes m a b bin).value.toNat = (a.toNat + 512 - b.toNat - bin.toNat) % 256 := by
  have hbin : ((BitVec.ofBool bin).setWidth 8).toNat = bin.toNat := by cases bin <;> rfl
  have hle : bin.toNat ≤ 1 := Bool.toNat_le bin
  simp only [subBytes, BitVec.toNat_sub, hbin]
  omega

/-- H is the nibble borrow under the standard value of `SUB_HALF_CARRY` and 0 under the other (decision D19). -/
theorem flagsAre_subBytes (m : SubHalfCarry) (a b : Byte) (bin : Bool) :
    FlagsAre (subBytes m a b bin).flags ((subBytes m a b bin).value = 0) True
      (m = .standard ∧ a.toNat % 16 < b.toNat % 16 + bin.toNat) (b.toNat + bin.toNat > a.toNat) := by
  refine flagsAre_packFlags beq_iff_eq (iff_true_intro rfl) ?_ decide_eq_true_iff
  cases m with
  | standard => simp only [decide_eq_true_iff, true_and]
  | sourceBug => simp only [Bool.false_eq_true, reduceCtorEq, false_and]

/-- Settles O10: `exec_aluOf_eq` is the next state of every form, and CP's result is A itself. -/
theorem aluForms : Obligations.AluForms := by
  intro op r n b1 b2 s
  have hcp : op = .cp → ∀ b, (aluCompute op s.params.subHalfCarry s.a b s.flagC).value = s.a := by
    rintro rfl b
    rfl
  exact ⟨decodeBytes_aluOf_reg op r b1 b2, decodeBytes_aluOf_memHl op b1 b2, decodeBytes_aluOf_imm op n b2, rfl, rfl, rfl,
    ⟨_, _, exec_aluOf_eq op (.reg r) s, fun h => hcp h _⟩, ⟨_, _, exec_aluOf_eq op .memHl s, fun h => hcp h _⟩,
    ⟨_, _, exec_aluOf_eq op (.imm n) s, fun h => hcp h _⟩⟩

/-- Settles O11: both are `addBytes`, ADD without a carry-in and ADC with C. -/
theorem addAdc : Obligations.AddAdc := by
  intro src s
  simp only [← flagC_toNat]
  exact ⟨⟨_, _, exec_aluOf_eq .add src s, addBytes_toNat _ _ false, flagsAre_addBytes _ _ false⟩,
    ⟨_, _, exec_aluOf_eq .adc src s, addBytes_toNat _ _ s.flagC, flagsAre_addBytes _ _ s.flagC⟩⟩

/-- Settles O12: all three are `subBytes`, SBC with C as the borrow-in; CP takes the flags only. -/
theorem subSbcCp : Obligations.SubSbcCp := by
  intro src s
  simp only [← flagC_toNat]
  refine ⟨⟨_, _, exec_aluOf_eq .sub src s, ?_, flagsAre_subBytes _ _ _ false, exec_aluOf_eq .cp src s⟩,
    ⟨_, _, exec_aluOf_eq .sbc src s, subBytes_toNat _ _ _ s.flagC, flagsAre_subBytes _ _ _ s.flagC⟩⟩
  refine (subBytes_toNat _ _ _ false).trans ?_
  rw [Bool.toNat_false]
  omega

/-! ### AND, XOR and OR (R255 to R257) -/

/-- The logical operations clear N and C. -/
theorem flagsAre_logic (v : Byte) {h : Bool} {ph : Prop} (hh : h = true ↔ ph) :
    FlagsAre (packFlags (v == 0) false h false) (v = 0) False ph False :=
  flagsAre_packFlags beq_iff_eq (iff_false_intro Bool.false_ne_true) hh (iff_false_intro Bool.false_ne_true)

/-- Settles O13: the bits by the library's lemmas on bitwise operations, the flags by `flagsAre_logic`. -/
theorem andXorOr : Obligations.AndXorOr := fun src s =>
  ⟨⟨_, _, exec_aluOf_eq .and src s, fun _ => BitVec.getLsbD_and,
      flagsAre_logic (s.a &&& s.aluSource src) (iff_true_intro rfl)⟩,
    ⟨_, _, exec_aluOf_eq .xor src s, fun _ => BitVec.getLsbD_xor,
      flagsAre_logic (s.a ^^^ s.aluSource src) (iff_false_intro Bool.false_ne_true)⟩,
    ⟨_, _, exec_aluOf_eq .or src s, fun _ => BitVec.getLsbD_or,
      flagsAre_logic (s.a ||| s.aluSource src) (iff_false_intro Bool.false_ne_true)⟩⟩

/-! ### INC and DEC of a byte (R259 to R262) -/

theorem lowNibble_toNat (v : Byte) : (v &&& 0x0F).toNat = v.toNat % 16 :=
  (BitVec.toNat_and v 0x0F).trans (Nat.and_two_pow_sub_one_eq_mod v.toNat 4)

theorem incByte_toNat (v : Byte) (c : Bool) : (incByte v c).value.toNat = (v.toNat + 1) % 256 :=
  BitVec.toNat_add v 1

theorem decByte_toNat (v : Byte) (c : Bool) : (decByte v c).value.toNat = (v.toNat + 255) % 256 :=
  (BitVec.toNat_sub v 1).trans (by rw [Nat.add_comm]; rfl)

theorem flagsAre_incByte (v : Byte) (c : Bool) :
    FlagsAre (incByte v c).flags ((incByte v c).value = 0) False (v.toNat % 16 = 15) (c = true) := by
  refine flagsAre_packFlags beq_iff_eq (iff_false_intro Bool.false_ne_true) ?_ Iff.rfl
  rw [beq_iff_eq, ← BitVec.toNat_inj, lowNibble_toNat]
  rfl

theorem flagsAre_decByte (v : Byte) (c : Bool) :
    FlagsAre (decByte v c).flags ((decByte v c).value = 0) True (v.toNat % 16 = 0) (c = true) := by
  refine flagsAre_packFlags beq_iff_eq (iff_true_intro rfl) ?_ Iff.rfl
  rw [beq_iff_eq, ← BitVec.toNat_inj, lowNibble_toNat]
  rfl

/-- Settles O14: `incByte` and `decByte` give the result and the flags, which go to the register or through the bus to HL. -/
theorem incDecByte : Obligations.IncDecByte := fun o r s b1 b2 =>
  ⟨decodeBytes_incOf o b1 b2, decodeBytes_decOf o b1 b2,
    ⟨_, _, exec_incOf_reg_eq r s, incByte_toNat _ _, flagsAre_incByte _ s.flagC⟩,
    ⟨_, _, exec_decOf_reg_eq r s, decByte_toNat _ _, flagsAre_decByte _ s.flagC⟩,
    ⟨_, _, finish_busWrite_flags 12 1 s.hl s _ _, incByte_toNat _ _, flagsAre_incByte (busRead s s.hl) s.flagC⟩,
    ⟨_, _, finish_busWrite_flags 12 1 s.hl s _ _, decByte_toNat _ _, flagsAre_decByte (busRead s s.hl) s.flagC⟩⟩

/-! ### DAA (R263) -/

/-- The low digit's correction after an addition, on exact naturals. -/
def daaLow (a : Nat) (h : Bool) : Nat := if h = true ∨ a % 16 > 9 then a + 6 else a

/-- Both digits' correction after an addition, on exact naturals. -/
def daaUp (a : Nat) (h c : Bool) : Nat :=
  if c = true ∨ daaLow a h > 0x9F then daaLow a h + 0x60 else daaLow a h

/-- The correction after a subtraction, modulo 256. -/
def daaDown (a : Nat) (h c : Bool) : Nat :=
  let a1 := if h = true then (a + 256 - 6) % 256 else a
  if c = true then (a1 + 256 - 0x60) % 256 else a1

theorem ite_or_decide {α : Type} (b : Bool) (p : Prop) [Decidable p] (x y : α) :
    (if (b || decide p) = true then x else y) = if b = true ∨ p then x else y :=
  if_congr (by rw [Bool.or_eq_true, decide_eq_true_iff]) rfl rfl

/-- The addition branch is the correction narrowed to a byte, with C set when it passes 255. -/
theorem daaByte_add (a : Byte) (h c : Bool) : daaByte a false h c =
    { value := BitVec.ofNat 8 (daaUp a.toNat h c)
      flags := packFlags (daaUp a.toNat h c % 256 == 0) false false (c || decide (daaUp a.toNat h c > 255)) } := by
  have hlow : (if (h || decide (a.toNat % 16 > 9)) = true then a.toNat + 6 else a.toNat) = daaLow a.toNat h :=
    ite_or_decide h _ _ _
  have hup : (if (c || decide (daaLow a.toNat h > 0x9F)) = true then daaLow a.toNat h + 0x60 else daaLow a.toNat h) =
      daaUp a.toNat h c := ite_or_decide c _ _ _
  rw [← hup, ← hlow]
  rfl

theorem daaByte_sub_toNat (a : Byte) (h c : Bool) : (daaByte a true h c).value.toNat = daaDown a.toNat h c := by
  have hsub : ∀ x k : Byte, (x - k).toNat = (x.toNat + 256 - k.toNat) % 256 := fun x k => by bv_omega
  simp only [daaByte, daaDown, if_true, apply_ite BitVec.toNat, hsub]
  rfl

theorem daaByte_toNat (a : Byte) (n h c : Bool) :
    (daaByte a n h c).value.toNat = if n = true then daaDown a.toNat h c else daaUp a.toNat h c % 256 := by
  cases n with
  | true => exact daaByte_sub_toNat a h c
  | false => rw [daaByte_add]; exact BitVec.toNat_ofNat _ 8

theorem flagsAre_daaByte (a : Byte) (n h c : Bool) :
    FlagsAre (daaByte a n h c).flags ((daaByte a n h c).value = 0) (n = true) False
      (if n = true then c = true else c = true ∨ daaUp a.toNat h c > 255) := by
  cases n with
  | true => exact flagsAre_packFlags beq_iff_eq Iff.rfl (iff_false_intro Bool.false_ne_true) Iff.rfl
  | false =>
    rw [daaByte_add]
    refine flagsAre_packFlags ?_ Iff.rfl (iff_false_intro Bool.false_ne_true) ?_
    · rw [beq_iff_eq, ← BitVec.toNat_inj, BitVec.toNat_ofNat]
      rfl
    · rw [Bool.or_eq_true, decide_eq_true_iff]
      rfl

/-- Settles O15: `daaByte_toNat` and `flagsAre_daaByte`, whose corrections are the statement's. -/
theorem decimalAdjust : Obligations.DecimalAdjust := fun s _ _ =>
  ⟨rfl, _, _, rfl, daaByte_toNat s.a s.flagN s.flagH s.flagC, flagsAre_daaByte s.a s.flagN s.flagH s.flagC⟩

/-! ### CPL, SCF and CCF (R264 to R266) -/

theorem complement_toNat (v : Byte) : (v ^^^ 0xFF).toNat = 255 - v.toNat :=
  (congrArg BitVec.toNat (BitVec.xor_allOnes (x := v))).trans BitVec.toNat_not

/-- Settles O16: each of the three packs the flags that it keeps with those that it sets. -/
theorem complementAndCarry : Obligations.ComplementAndCarry := fun s _ _ =>
  have hfalse := iff_false_intro Bool.false_ne_true
  have htrue := iff_true_intro (rfl : true = true)
  ⟨rfl, rfl, rfl, ⟨_, _, rfl, complement_toNat s.a, flagsAre_packFlags Iff.rfl htrue htrue Iff.rfl⟩,
    ⟨_, rfl, flagsAre_packFlags Iff.rfl hfalse hfalse htrue⟩,
    ⟨_, rfl, flagsAre_packFlags Iff.rfl hfalse hfalse (iff_of_eq (Bool.not_eq_true' s.flagC))⟩⟩

/-! ### The accumulator rotates (R267 to R270) -/

theorem bit0_toNat (c : Bool) : (bit0 c).toNat = c.toNat := by cases c <;> rfl

theorem bit7_toNat (c : Bool) : (bit7 c).toNat = c.toNat <<< 7 := by cases c <;> rfl

/-- A rotate to the left on exact naturals: the byte doubled, and the bit that comes in at bit 0. -/
theorem shiftLeft_or_bit0_toNat (v : Byte) (c : Bool) :
    ((v <<< 1) ||| bit0 c).toNat = 2 * v.toNat % 256 + c.toNat := by
  have hdouble : v.toNat <<< 1 % 2 ^ 8 = (v.toNat % 128) <<< 1 := by
    rw [Nat.shiftLeft_eq, Nat.shiftLeft_eq]
    omega
  rw [BitVec.toNat_or, BitVec.toNat_shiftLeft, bit0_toNat, hdouble,
    ← Nat.shiftLeft_add_eq_or_of_lt (Bool.toNat_lt c), Nat.shiftLeft_eq]
  omega

/-- A rotate to the right on exact naturals: the byte halved, and the bit that comes in at bit 7. -/
theorem shiftRight_or_bit7_toNat (v : Byte) (c : Bool) :
    ((v >>> 1) ||| bit7 c).toNat = v.toNat / 2 + 128 * c.toNat := by
  have hhalf : v.toNat / 2 < 2 ^ 7 := by omega
  rw [BitVec.toNat_or, BitVec.toNat_ushiftRight, bit7_toNat, Nat.shiftRight_eq_div_pow, Nat.or_comm,
    ← Nat.shiftLeft_add_eq_or_of_lt hhalf, Nat.shiftLeft_eq]
  omega

theorem getLsbD_seven_iff (v : Byte) : v.getLsbD 7 = true ↔ v.toNat ≥ 128 :=
  (iff_of_eq (congrArg (· = true) (BitVec.msb_eq_decide v))).trans decide_eq_true_iff

theorem getLsbD_zero_iff (v : Byte) : v.getLsbD 0 = true ↔ v.toNat % 2 = 1 :=
  (iff_of_eq (congrArg (· = true) (Nat.testBit_zero v.toNat))).trans decide_eq_true_iff

theorem getLsbD_seven_toNat (v : Byte) : (v.getLsbD 7).toNat = v.toNat / 128 :=
  (Nat.toNat_testBit v.toNat 7).trans (by omega)

theorem getLsbD_zero_toNat (v : Byte) : (v.getLsbD 0).toNat = v.toNat % 2 :=
  (Nat.toNat_testBit v.toNat 0).trans (by omega)

theorem shiftValue_rlc_toNat (v : Byte) (cin : Bool) :
    (shiftValue .rlc v cin).toNat = 2 * v.toNat % 256 + v.toNat / 128 := by
  rw [← getLsbD_seven_toNat]
  exact shiftLeft_or_bit0_toNat v _

theorem shiftValue_rl_toNat (v : Byte) (cin : Bool) :
    (shiftValue .rl v cin).toNat = 2 * v.toNat % 256 + cin.toNat :=
  shiftLeft_or_bit0_toNat v cin

theorem shiftValue_rrc_toNat (v : Byte) (cin : Bool) :
    (shiftValue .rrc v cin).toNat = v.toNat / 2 + 128 * (v.toNat % 2) := by
  rw [← getLsbD_zero_toNat]
  exact shiftRight_or_bit7_toNat v _

theorem shiftValue_rr_toNat (v : Byte) (cin : Bool) :
    (shiftValue .rr v cin).toNat = v.toNat / 2 + 128 * cin.toNat :=
  shiftRight_or_bit7_toNat v cin

/-- An accumulator rotate sets C to the bit shifted out and clears the others, Z too (decision D18). -/
theorem flagsAre_rotateAccumulator (op : ShiftOp) (v : Byte) (cin : Bool) {p : Prop} (hout : shiftCarry op v = true ↔ p) :
    FlagsAre (rotateAccumulator op v cin).flags False False False p :=
  have hfalse := iff_false_intro Bool.false_ne_true
  flagsAre_packFlags hfalse hfalse hfalse hout

/-- Settles O17: `shiftValue` of each rotate on exact naturals, and bit 7 or bit 0 as the bit that goes out. -/
theorem accumulatorRotates : Obligations.AccumulatorRotates := by
  intro s b1 b2
  have hleft := getLsbD_seven_iff s.a
  have hright := getLsbD_zero_iff s.a
  simp only [← flagC_toNat]
  exact ⟨rfl, rfl, rfl, rfl,
    ⟨_, _, rfl, shiftValue_rlc_toNat s.a s.flagC, flagsAre_rotateAccumulator .rlc s.a s.flagC hleft⟩,
    ⟨_, _, rfl, shiftValue_rl_toNat s.a s.flagC, flagsAre_rotateAccumulator .rl s.a s.flagC hleft⟩,
    ⟨_, _, rfl, shiftValue_rrc_toNat s.a s.flagC, flagsAre_rotateAccumulator .rrc s.a s.flagC hright⟩,
    ⟨_, _, rfl, shiftValue_rr_toNat s.a s.flagC, flagsAre_rotateAccumulator .rr s.a s.flagC hright⟩⟩

end Sys2Proof.Machine
end

section
/-! PROOFS. The statements about 16-bit arithmetic (42_alu16.md): each family's instruction is its shared shape, and the
signed displacement on exact integers. -/

namespace Sys2Proof.Machine

open Sys2Proof

/-! ### Reads and writes around the fetch (R141) -/

theorem pair_fetched (s : State) (k : Nat) (p : Pair) : (s.fetched k).pair p = s.pair p := by
  cases p <;> rfl

/-- A write of HL with flags after the fetch. -/
theorem finish_setHl_flags (n k : Nat) (s : State) (w : Word) (f : Byte) :
    finish n { (s.fetched k).setHl w with f := f } =
      .next { s.setHl w with f := f, pc := s.pc + BitVec.ofNat 16 k, cycles := n } := rfl

/-! ### ADD HL,rr (R300) -/

theorem decodeBytes_addHlOf (p : Pair) (b1 b2 : Byte) :
    decodeBytes (BitVec.ofNat 8 (0x09 + 16 * p.code)) b1 b2 = addHlOf p := by
  cases p <;> rfl

theorem exec_addHlOf (p : Pair) (s : State) : exec (addHlOf p) s = addHlPair p s := by
  cases p <;> rfl

/-- `ADD HL,rr` adds the pair as it was before HL is written. -/
theorem addHlPair_eq (p : Pair) (s : State) :
    addHlPair p s = .next { s.setHl (s.hl + s.pair p) with
      f := addHlFlags s.hl (s.pair p) s.flagZ, pc := s.pc + 1, cycles := 8 } := by
  rw [addHlPair, pair_fetched]
  exact finish_setHl_flags 8 1 s _ _

/-- Z is the flag that was given, and H and C are the carries out of bits 11 and 15. -/
theorem flagsAre_addHlFlags (h v : Word) (z : Bool) :
    FlagsAre (addHlFlags h v z) (z = true) False (h.toNat % 4096 + v.toNat % 4096 > 4095)
      (h.toNat + v.toNat > 65535) :=
  flagsAre_packFlags Iff.rfl (iff_false_intro Bool.false_ne_true) decide_eq_true_iff decide_eq_true_iff

/-- Settles O18: `addHlPair_eq` is the next state for every pair, HL itself included. -/
theorem addHl : Obligations.AddHl := fun p s b1 b2 =>
  ⟨decodeBytes_addHlOf p b1 b2, _, _, (exec_addHlOf p s).trans (addHlPair_eq p s), BitVec.toNat_add s.hl (s.pair p),
    flagsAre_addHlFlags s.hl (s.pair p) s.flagZ⟩

/-! ### INC rr and DEC rr (R301, R302) -/

theorem decodeBytes_incPairOf (p : Pair) (b1 b2 : Byte) :
    decodeBytes (BitVec.ofNat 8 (0x03 + 16 * p.code)) b1 b2 = incPairOf p := by
  cases p <;> rfl

theorem decodeBytes_decPairOf (p : Pair) (b1 b2 : Byte) :
    decodeBytes (BitVec.ofNat 8 (0x0B + 16 * p.code)) b1 b2 = decPairOf p := by
  cases p <;> rfl

theorem exec_incPairOf (p : Pair) (s : State) : exec (incPairOf p) s = incPair p s := by
  cases p <;> rfl

theorem exec_decPairOf (p : Pair) (s : State) : exec (decPairOf p) s = decPair p s := by
  cases p <;> rfl

theorem incPair_eq (p : Pair) (s : State) :
    incPair p s = .next { s.setPair p (s.pair p + 1) with pc := s.pc + 1, cycles := 8 } := by
  rw [incPair, pair_fetched]
  exact finish_setPair 8 1 s p _

theorem decPair_eq (p : Pair) (s : State) :
    decPair p s = .next { s.setPair p (s.pair p - 1) with pc := s.pc + 1, cycles := 8 } := by
  rw [decPair, pair_fetched]
  exact finish_setPair 8 1 s p _

theorem sub_one_toNat (w : Word) : (w - 1).toNat = (w.toNat + 65535) % 65536 :=
  (BitVec.toNat_sub w 1).trans (by rw [Nat.add_comm]; rfl)

/-- Settles O19: a pair write after the fetch, which leaves F. -/
theorem incDecPair : Obligations.IncDecPair := fun p s b1 b2 =>
  ⟨decodeBytes_incPairOf p b1 b2, decodeBytes_decPairOf p b1 b2,
    ⟨_, (exec_incPairOf p s).trans (incPair_eq p s), BitVec.toNat_add (s.pair p) 1⟩,
    ⟨_, (exec_decPairOf p s).trans (decPair_eq p s), sub_one_toNat (s.pair p)⟩⟩

/-! ### ADD SP,e8 and LD HL,SP+e8 (R303, R304) -/

/-- A displacement as a word is its signed value mod 2^16. -/
theorem sext8_toNat (e : Byte) : ((sext8 e).toNat : Int) = e.toInt % 65536 := by
  rw [sext8, BitVec.signExtend, BitVec.toNat_ofInt]
  exact Int.toNat_of_nonneg (Int.emod_nonneg _ (by decide))

/-- A word moved by a signed displacement. -/
theorem add_sext8_toNat (w : Word) (e : Byte) : ((w + sext8 e).toNat : Int) = ((w.toNat : Int) + e.toInt) % 65536 := by
  rw [BitVec.toNat_add, Int.natCast_emod, Int.natCast_add, sext8_toNat]
  exact Int.add_emod_emod ..

/-- H and C come from SP's low byte and the displacement as an unsigned byte. -/
theorem flagsAre_spOffsetFlags (sp : Word) (e : Byte) :
    FlagsAre (spOffsetFlags sp e) False False (sp.toNat % 256 % 16 + e.toNat % 16 > 15)
      (sp.toNat % 256 + e.toNat > 255) := by
  rw [Nat.mod_mod_of_dvd sp.toNat (by decide : 16 ∣ 256)]
  have hfalse := iff_false_intro Bool.false_ne_true
  exact flagsAre_packFlags hfalse hfalse decide_eq_true_iff decide_eq_true_iff

/-- Settles O20: both instructions write the one sum (`add_sext8_toNat`), to SP or to HL, with the same flags. -/
theorem stackPointerOffset : Obligations.StackPointerOffset := fun e _ s =>
  ⟨rfl, rfl, _, _, rfl, finish_setHl_flags 12 2 s (s.sp + sext8 e) (spOffsetFlags s.sp e), add_sext8_toNat s.sp e,
    flagsAre_spOffsetFlags s.sp e⟩

end Sys2Proof.Machine
end

section
/-! PROOFS. The statements about control transfer (43_control.md): each shared shape's next state, said once over the state
before the fetch, and the instructions of each family as their shape. -/

namespace Sys2Proof.Machine

open Sys2Proof

/-! ### Conditions and the stack after the fetch (R320) -/

/-- The fetch leaves F, so a condition can be tested before it. -/
theorem cond_fetched (s : State) (k : Nat) (cc : Cond) : (s.fetched k).cond cc = s.cond cc := by
  cases cc <;> rfl

/-- A call after the fetch: the address after the instruction is pushed, the high byte first (R85, R326). -/
theorem finish_callTo (n k : Nat) (target : Word) (s : State) :
    finish n (callTo target (s.fetched k)) =
      .next { busWrite (s.sp - 2) (lowByte (s.pc + BitVec.ofNat 16 k))
          (busWrite (s.sp - 1) (highByte (s.pc + BitVec.ofNat 16 k)) s) with
        sp := s.sp - 2, pc := target, cycles := n } := by
  rw [callTo, fetched_pc, State.fetched, push16_atPc]
  rfl

/-- A return after the fetch: the fetch moves neither SP nor what the bus shows there (R328). -/
theorem finish_returned (n k : Nat) (s : State) :
    finish n (returned (s.fetched k)) = .next { s with pc := popValue s, sp := s.sp + 2, cycles := n } := rfl

/-! ### The conditional shapes (R322, R325, R327, R329) -/

theorem jpIf_eq (cc : Cond) (a : Word) (s : State) :
    jpIf cc a s =
      .next (if s.cond cc then { s with pc := a, cycles := 16 } else { s with pc := s.pc + 3, cycles := 12 }) := by
  rw [jpIf, cond_fetched, apply_ite Host.Outcome.next]
  rfl

theorem jrIf_eq (cc : Cond) (e : Byte) (s : State) :
    jrIf cc e s =
      .next (if s.cond cc then { s with pc := s.pc + 2 + sext8 e, cycles := 12 }
        else { s with pc := s.pc + 2, cycles := 8 }) := by
  rw [jrIf, cond_fetched, apply_ite Host.Outcome.next]
  rfl

theorem callIf_eq (cc : Cond) (a : Word) (s : State) :
    callIf cc a s =
      .next (if s.cond cc then
        { busWrite (s.sp - 2) (lowByte (s.pc + 3)) (busWrite (s.sp - 1) (highByte (s.pc + 3)) s) with
          sp := s.sp - 2, pc := a, cycles := 24 }
      else { s with pc := s.pc + 3, cycles := 12 }) := by
  rw [callIf, cond_fetched, finish_callTo, apply_ite Host.Outcome.next]
  rfl

theorem retIf_eq (cc : Cond) (s : State) :
    retIf cc s =
      .next (if s.cond cc then { s with pc := popValue s, sp := s.sp + 2, cycles := 20 }
        else { s with pc := s.pc + 1, cycles := 8 }) := by
  rw [retIf, cond_fetched, finish_returned, apply_ite Host.Outcome.next]
  rfl

/-! ### The families of 43_control.md: encodings and shapes -/

theorem decodeBytes_jpOf (cc : Cond) (lo hi : Byte) :
    decodeBytes (BitVec.ofNat 8 (0xC2 + 8 * cc.code)) lo hi = jpOf cc (wordOf lo hi) := by
  cases cc <;> rfl

theorem exec_jpOf (cc : Cond) (a : Word) (s : State) : exec (jpOf cc a) s = jpIf cc a s := by
  cases cc <;> rfl

theorem decodeBytes_jrOf (cc : Cond) (e b2 : Byte) :
    decodeBytes (BitVec.ofNat 8 (0x20 + 8 * cc.code)) e b2 = jrOf cc e := by
  cases cc <;> rfl

theorem exec_jrOf (cc : Cond) (e : Byte) (s : State) : exec (jrOf cc e) s = jrIf cc e s := by
  cases cc <;> rfl

theorem decodeBytes_callOf (cc : Cond) (lo hi : Byte) :
    decodeBytes (BitVec.ofNat 8 (0xC4 + 8 * cc.code)) lo hi = callOf cc (wordOf lo hi) := by
  cases cc <;> rfl

theorem exec_callOf (cc : Cond) (a : Word) (s : State) : exec (callOf cc a) s = callIf cc a s := by
  cases cc <;> rfl

theorem decodeBytes_retOf (cc : Cond) (b1 b2 : Byte) :
    decodeBytes (BitVec.ofNat 8 (0xC0 + 8 * cc.code)) b1 b2 = retOf cc := by
  cases cc <;> rfl

theorem exec_retOf (cc : Cond) (s : State) : exec (retOf cc) s = retIf cc s := by
  cases cc <;> rfl

theorem decodeBytes_rstOf (y : Fin 8) (b1 b2 : Byte) :
    decodeBytes (BitVec.ofNat 8 (0xC7 + 8 * y.val)) b1 b2 = rstOf y.val := by
  fin_cases y <;> rfl

theorem exec_rstOf (y : Fin 8) (s : State) : exec (rstOf y.val) s = rstTo y.val s := by
  fin_cases y <;> rfl

/-! ### Jumps (R321 to R325) -/

/-- Settles O21: each jump replaces PC, and `add_sext8_toNat` is the relative target on exact integers. -/
theorem jumps : Obligations.Jumps := by
  intro a e lo hi b1 b2 s
  have htarget : ((s.pc + 2 + sext8 e).toNat : Int) = ((s.pc.toNat : Int) + 2 + e.toInt) % 65536 := by
    rw [add_sext8_toNat, BitVec.toNat_add, Int.natCast_emod, Int.natCast_add]
    exact Int.emod_add_emod ..
  exact ⟨rfl, rfl, rfl, rfl, rfl, s.pc + 2 + sext8 e, rfl, htarget⟩

/-- Settles O22: the statement's test of F is `State.cond`, and the two next states are those of the shapes. -/
theorem conditionalJumps : Obligations.ConditionalJumps := by
  intro cc a e lo hi b2 s taken
  have htaken : taken = s.cond cc := by cases cc <;> rfl
  rw [htaken]
  exact ⟨decodeBytes_jpOf cc lo hi, (exec_jpOf cc a s).trans (jpIf_eq cc a s),
    decodeBytes_jrOf cc e b2, (exec_jrOf cc e s).trans (jrIf_eq cc e s)⟩

/-! ### Calls and returns (R326 to R331) -/

/-- Settles O23: CALL and every RST are one call after the fetch (`finish_callTo`), of 3 bytes or of 1. -/
theorem callAndRst : Obligations.CallAndRst := fun a y _ _ b1 b2 s =>
  ⟨rfl, finish_callTo 24 3 a s, decodeBytes_rstOf y b1 b2, (exec_rstOf y s).trans (finish_callTo 16 1 _ s)⟩

/-- Settles O24: `callIf_eq` and `retIf_eq` are the two next states of each instruction. -/
theorem conditionalCallAndRet : Obligations.ConditionalCallAndRet := fun cc a lo hi b1 b2 s =>
  ⟨decodeBytes_callOf cc lo hi, (exec_callOf cc a s).trans (callIf_eq cc a s),
    decodeBytes_retOf cc b1 b2, (exec_retOf cc s).trans (retIf_eq cc s)⟩

/-- Settles O25: both pop the word at SP (`finish_returned`), whose value is `wordOf_toNat`; RETI also sets IME. -/
theorem returns : Obligations.Returns := fun s _ _ =>
  ⟨rfl, rfl, popValue s, wordOf_toNat (busRead s s.sp) (busRead s (s.sp + 1)), finish_returned 16 1 s, rfl⟩

end Sys2Proof.Machine
end

section
/-! PROOFS. The statements about the system instructions (44_system.md), and the secondary map of PREFIX CB read as families:
the fields of the secondary opcode name its family member, which runs as the rule that PREFIX CB selects by them. -/

namespace Sys2Proof.Machine

open Sys2Proof

/-! ### NOP, HALT, DI and EI (R350, R351, R353, R354) -/

/-- HALT undoes the fetch of its own opcode. -/
theorem execHalt_eq (s : State) : execHalt s = .next { s with halted := true, cycles := 4 } := by
  have hpc : s.pc + 1 - 1 = s.pc := BitVec.add_sub_cancel s.pc 1
  show Host.Outcome.next { s with pc := s.pc + 1 - 1, halted := true, cycles := 4 } = _
  rw [hpc]

/-- Settles O26: NOP, DI and EI are their one change after the fetch; HALT leaves PC where it was (`execHalt_eq`). -/
theorem nopHaltDiEi : Obligations.NopHaltDiEi := fun s _ _ =>
  ⟨rfl, rfl, rfl, rfl, rfl, execHalt_eq s, rfl, rfl⟩

/-! ### STOP (R352) -/

theorem ofNat_stopBytes (l : StopLength) : BitVec.ofNat 16 (stopBytes l) = if l = .two then 2 else 1 := by
  cases l <;> rfl

/-- STOP as a whole: outside `Raw` it replaces only the fields written out here. -/
theorem execStop_eq (s : State) : execStop s = .next { s with
    savedP1 := s.rawRead ioP1, savedLcdc := s.rawRead ioLcdc, savedTac := s.rawRead ioTac, pressed := allPressed,
    stopped := true, raw := (enterStop s).raw, pc := s.pc + (if s.params.stopLength = .two then 2 else 1),
    cycles := 4 } := by
  rw [← ofNat_stopBytes]
  rfl

/-- Settles O27: `execStop_eq` is the whole next state, and what its `Raw` reads is what `enterStop` left there. -/
theorem stop : Obligations.Stop := by
  intro s _ _
  refine ⟨rfl, _, execStop_eq s, rfl, rawRead_enterStop_other s, fun hwf => ?_⟩
  have hraw : s.rawWf = true := ((memoryWf_iff s).mp hwf).1
  exact ⟨rawRead_lcdc_enterStop s hraw, rawRead_tac_enterStop s hraw⟩

/-! ### Unassigned opcodes (R356) -/

theorem unassigned_eq (op : Byte) (s : State) :
    unassigned op s = .next (match s.params.illegalOpcodePolicy with
      | .fault => { s with fault := some ⟨op, s.pc⟩, pc := s.pc + 1, cycles := -1 }
      | .nopAdvance => { s with pc := s.pc + 1, cycles := s.params.illegalNopCycles }) := by
  unfold unassigned
  cases s.params.illegalOpcodePolicy <;> rfl

/-- An unassigned opcode's instruction is the one it decodes to, and runs as `unassigned` of that opcode (R150). -/
theorem unassignedOpcodes_eq {op : Byte} {i : Instr} (h : (op, i) ∈ unassignedOpcodes) (b1 b2 : Byte) (s : State) :
    decodeBytes op b1 b2 = i ∧ exec i s = unassigned op s := by
  have hall : unassignedOpcodes.Forall fun p => decodeBytes p.1 b1 b2 = p.2 ∧ exec p.2 s = unassigned p.1 s :=
    ⟨⟨rfl, rfl⟩, ⟨rfl, rfl⟩, ⟨rfl, rfl⟩, ⟨rfl, rfl⟩, ⟨rfl, rfl⟩, ⟨rfl, rfl⟩, ⟨rfl, rfl⟩, ⟨rfl, rfl⟩, ⟨rfl, rfl⟩,
      ⟨rfl, rfl⟩, ⟨rfl, rfl⟩⟩
  exact List.forall_iff_forall_mem.mp hall _ h

/-- Settles O29 (named under `System`, since the shape has the plain name): all eleven run as the one shape `unassigned`,
whose next state under each policy is `unassigned_eq`. -/
theorem System.unassigned : Obligations.Unassigned := by
  intro op i s b1 b2 hop
  obtain ⟨hdecode, hexec⟩ := unassignedOpcodes_eq hop b1 b2 s
  exact ⟨hdecode, hexec.trans (unassigned_eq op s)⟩

/-! ### The families of the secondary map (R151, R370) -/

theorem exec_shiftOf (op : ShiftOp) (o : Operand8) (s : State) : exec (shiftOf op o) s = cbShift op o s := by
  cases o with
  | reg r => cases op <;> cases r <;> rfl
  | memHl => cases op <;> rfl

theorem exec_bitOf (b : Fin 8) (o : Operand8) (s : State) : exec (bitOf b.val o) s = cbBit b.val o s := by
  cases o with
  | reg r => fin_cases b <;> cases r <;> rfl
  | memHl => fin_cases b <;> rfl

theorem exec_resOf (b : Fin 8) (o : Operand8) (s : State) : exec (resOf b.val o) s = cbRes b.val o s := by
  cases o with
  | reg r => fin_cases b <;> cases r <;> rfl
  | memHl => fin_cases b <;> rfl

theorem exec_setOf (b : Fin 8) (o : Operand8) (s : State) : exec (setOf b.val o) s = cbSet b.val o s := by
  cases o with
  | reg r => fin_cases b <;> cases r <;> rfl
  | memHl => fin_cases b <;> rfl

/-- The family member that the fields of a secondary opcode name. -/
def secondaryOf (c : Byte) : Instr :=
  let o := operand8OfCode (fieldZ c)
  match fieldX c with
  | 0 => shiftOf (shiftOfCode (fieldY c)) o
  | 1 => bitOf (fieldY c) o
  | 2 => resOf (fieldY c) o
  | _ => setOf (fieldY c) o

theorem decodeSecondary_eq_secondaryOf (c : Byte) : decodeSecondary c = secondaryOf c := by
  have htable : secondaryTable = (List.range 256).map fun n => secondaryOf (BitVec.ofNat 8 n) := by decide +kernel
  rw [decodeSecondary, htable]
  exact getD_map_range_byte secondaryOf c _

/-- The bit that a secondary opcode names (R151), as one of the eight. -/
def bitSelector (c : Byte) : Fin 8 := ⟨fieldY c, Nat.mod_lt _ (by decide)⟩

/-- PREFIX CB selects the same rule by the fields as the secondary map does by its entry. -/
theorem execPrefixCb_eq_exec_secondaryOf (c : Byte) (s : State) : execPrefixCb c s = exec (secondaryOf c) s := by
  unfold execPrefixCb secondaryOf
  match fieldX c with
  | 0 => exact (exec_shiftOf _ _ s).symm
  | 1 => exact (exec_bitOf (bitSelector c) _ s).symm
  | 2 => exact (exec_resOf (bitSelector c) _ s).symm
  | _ + 3 => exact (exec_setOf (bitSelector c) _ s).symm

/-! ### PREFIX CB (R355) -/

@[simp] theorem setOperand_pc (s : State) (o : Operand8) (v : Byte) : (s.setOperand o v).pc = s.pc := by
  cases o with
  | reg r => exact setReg_pc s r v
  | memHl => exact busWrite_pc s.hl v s

/-- Every secondary instruction completes, with PC past 0xCB and the secondary opcode. -/
theorem execPrefixCb_pc (c : Byte) (s : State) : ∃ t, execPrefixCb c s = .next t ∧ t.pc = s.pc + 2 := by
  unfold execPrefixCb
  match fieldX c with
  | 0 | 2 | _ + 3 => exact ⟨_, rfl, setOperand_pc (s.fetched 2) _ _⟩
  | 1 => exact ⟨_, rfl, rfl⟩

/-- Settles O28: the secondary map is the map of the families (`decodeSecondary_eq_secondaryOf`), by which PREFIX CB
runs what the map selects; `execPrefixCb_pc` is its completion. -/
theorem prefixCb : Obligations.PrefixCb := by
  intro c b2 s
  refine ⟨decodeBytes_cb c b2, ?_, execPrefixCb_pc c s⟩
  rw [decodeSecondary_eq_secondaryOf]
  exact execPrefixCb_eq_exec_secondaryOf c s

end Sys2Proof.Machine
end

section
/-! PROOFS. The statements about the secondary instructions (45_cb.md): the encoding of each family, its next state, and its
result byte on exact naturals or bit by bit. -/

namespace Sys2Proof.Machine

open Sys2Proof

/-! ### The encodings (R151, R370) -/

theorem operand8OfCode_code (o : Operand8) : operand8OfCode o.code = o := by
  cases o with
  | reg r => cases r <;> rfl
  | memHl => rfl

theorem shiftOfCode_code (op : ShiftOp) : shiftOfCode op.code = op := by cases op <;> rfl

theorem ShiftOp.code_lt (op : ShiftOp) : op.code < 8 := by cases op <;> decide

theorem Operand8.code_lt (o : Operand8) : o.code < 8 := by
  cases o with
  | reg r => cases r <;> decide
  | memHl => decide

/-- A secondary opcode put together from its fields has these fields. -/
theorem fields_of_eq_ofNat {c : Byte} {x y : Nat} {o : Operand8} (hx : x < 4) (hy : y < 8)
    (hc : c = BitVec.ofNat 8 (64 * x + 8 * y + o.code)) :
    fieldX c = x ∧ fieldY c = y ∧ operand8OfCode (fieldZ c) = o := by
  have hz := o.code_lt
  have hcode : fieldZ c = o.code := by
    rw [hc, fieldZ, BitVec.toNat_ofNat]
    omega
  rw [hcode, operand8OfCode_code, hc, fieldX, fieldY, BitVec.toNat_ofNat]
  exact ⟨by omega, by omega, rfl⟩

theorem decodeBytes_shiftOf (op : ShiftOp) (o : Operand8) (b2 : Byte) :
    decodeBytes 0xCB (BitVec.ofNat 8 (8 * op.code + o.code)) b2 = shiftOf op o := by
  obtain ⟨hx, hy, hz⟩ := fields_of_eq_ofNat (x := 0) (o := o) (by decide) op.code_lt rfl
  rw [Nat.zero_add] at hx hy hz
  simp only [decodeBytes_cb, decodeSecondary_eq_secondaryOf, secondaryOf, hx, hy, hz, shiftOfCode_code]

theorem decodeBytes_bitOf (b : Fin 8) (o : Operand8) (b2 : Byte) :
    decodeBytes 0xCB (BitVec.ofNat 8 (0x40 + 8 * b.val + o.code)) b2 = bitOf b.val o := by
  obtain ⟨hx, hy, hz⟩ := fields_of_eq_ofNat (x := 1) (o := o) (by decide) b.isLt rfl
  simp only [decodeBytes_cb, decodeSecondary_eq_secondaryOf, secondaryOf, hx, hy, hz]

theorem decodeBytes_resOf (b : Fin 8) (o : Operand8) (b2 : Byte) :
    decodeBytes 0xCB (BitVec.ofNat 8 (0x80 + 8 * b.val + o.code)) b2 = resOf b.val o := by
  obtain ⟨hx, hy, hz⟩ := fields_of_eq_ofNat (x := 2) (o := o) (by decide) b.isLt rfl
  simp only [decodeBytes_cb, decodeSecondary_eq_secondaryOf, secondaryOf, hx, hy, hz]

theorem decodeBytes_setOf (b : Fin 8) (o : Operand8) (b2 : Byte) :
    decodeBytes 0xCB (BitVec.ofNat 8 (0xC0 + 8 * b.val + o.code)) b2 = setOf b.val o := by
  obtain ⟨hx, hy, hz⟩ := fields_of_eq_ofNat (x := 3) (o := o) (by decide) b.isLt rfl
  simp only [decodeBytes_cb, decodeSecondary_eq_secondaryOf, secondaryOf, hx, hy, hz]

/-! ### The shared shapes, as next states (R370) -/

theorem operand_fetched (s : State) (k : Nat) (o : Operand8) : (s.fetched k).operand o = s.operand o := by
  cases o with
  | reg r => exact reg_fetched s k r
  | memHl => rfl

theorem Operand8.cost_eq (o : Operand8) (register memory : Nat) :
    o.cost register memory = if o = .memHl then memory else register := by
  cases o <;> rfl

/-- An operand write after the fetch. -/
theorem finish_setOperand (n k : Nat) (s : State) (o : Operand8) (v : Byte) :
    finish n ((s.fetched k).setOperand o v) =
      .next { s.setOperand o v with pc := s.pc + BitVec.ofNat 16 k, cycles := n } := by
  cases o with
  | reg r => exact finish_setReg n k s r v
  | memHl => exact finish_busWrite n k s.hl v s

/-- An operand write with flags after the fetch. -/
theorem finish_setOperand_flags (n k : Nat) (s : State) (o : Operand8) (v f : Byte) :
    finish n { (s.fetched k).setOperand o v with f := f } =
      .next { s.setOperand o v with f := f, pc := s.pc + BitVec.ofNat 16 k, cycles := n } := by
  cases o with
  | reg r => exact finish_setReg_flags n k s r v f
  | memHl => exact finish_busWrite_flags n k s.hl s v f

theorem exec_shiftOf_eq (op : ShiftOp) (o : Operand8) (s : State) :
    exec (shiftOf op o) s =
      .next { s.setOperand o (shiftByte op (s.operand o) s.flagC).value with
        f := (shiftByte op (s.operand o) s.flagC).flags, pc := s.pc + 2, cycles := if o = .memHl then 16 else 8 } := by
  rw [exec_shiftOf, cbShift, operand_fetched, Operand8.cost_eq, finish_setOperand_flags, Nat.cast_ite]
  rfl

theorem exec_bitOf_eq (b : Fin 8) (o : Operand8) (s : State) :
    exec (bitOf b.val o) s =
      .next { s with
        f := packFlags (!(s.operand o).getLsbD b.val) false true s.flagC, pc := s.pc + 2,
        cycles := if o = .memHl then 12 else 8 } := by
  rw [exec_bitOf, cbBit, operand_fetched, Operand8.cost_eq, finish, Nat.cast_ite]
  rfl

theorem exec_resOf_eq (b : Fin 8) (o : Operand8) (s : State) :
    exec (resOf b.val o) s =
      .next { s.setOperand o (s.operand o &&& ~~~(1#8 <<< b.val)) with
        pc := s.pc + 2, cycles := if o = .memHl then 16 else 8 } := by
  rw [exec_resOf, cbRes, operand_fetched, Operand8.cost_eq, finish_setOperand, Nat.cast_ite]
  rfl

theorem exec_setOf_eq (b : Fin 8) (o : Operand8) (s : State) :
    exec (setOf b.val o) s =
      .next { s.setOperand o (s.operand o ||| 1#8 <<< b.val) with
        pc := s.pc + 2, cycles := if o = .memHl then 16 else 8 } := by
  rw [exec_setOf, cbSet, operand_fetched, Operand8.cost_eq, finish_setOperand, Nat.cast_ite]
  rfl

/-! ### The rotates, shifts and SWAP on exact naturals (R371 to R378) -/

theorem shiftValue_sla_toNat (v : Byte) (cin : Bool) : (shiftValue .sla v cin).toNat = 2 * v.toNat % 256 :=
  BitVec.toNat_shiftLeft.trans (by rw [Nat.shiftLeft_eq, Nat.mul_comm])

theorem shiftValue_srl_toNat (v : Byte) (cin : Bool) : (shiftValue .srl v cin).toNat = v.toNat / 2 :=
  (BitVec.toNat_ushiftRight v 1).trans (Nat.shiftRight_eq_div_pow v.toNat 1)

/-- SRA keeps bit 7, as a rotate to the right does that takes bit 7 itself in. -/
theorem shiftValue_sra_toNat (v : Byte) (cin : Bool) :
    (shiftValue .sra v cin).toNat = v.toNat / 2 + 128 * (v.toNat / 128) := by
  have hsign : v &&& 0x80 = bit7 (v.getLsbD 7) := BitVec.and_twoPow v 7
  rw [shiftValue, hsign, shiftRight_or_bit7_toNat, getLsbD_seven_toNat]

/-- SWAP puts the low nibble above the high one. -/
theorem shiftValue_swap_toNat (v : Byte) (cin : Bool) :
    (shiftValue .swap v cin).toNat = v.toNat % 16 * 16 + v.toNat / 16 := by
  have hlow : ((v &&& 0x0F) <<< 4).toNat = (v.toNat % 16) <<< 4 := by
    rw [BitVec.toNat_shiftLeft, lowNibble_toNat, Nat.shiftLeft_eq]
    omega
  have hhigh : (v >>> 4).toNat = v.toNat / 16 :=
    (BitVec.toNat_ushiftRight v 4).trans (Nat.shiftRight_eq_div_pow v.toNat 4)
  have hlt : v.toNat / 16 < 2 ^ 4 := by omega
  rw [shiftValue, BitVec.toNat_or, hlow, hhigh, ← Nat.shiftLeft_add_eq_or_of_lt hlt, Nat.shiftLeft_eq]

/-- Z is the result being 0 and C the bit shifted out (R370). -/
theorem flagsAre_shiftByte (op : ShiftOp) (v : Byte) (cin : Bool) {p : Prop} (hout : shiftCarry op v = true ↔ p) :
    FlagsAre (shiftByte op v cin).flags ((shiftByte op v cin).value = 0) False False p :=
  have hfalse := iff_false_intro Bool.false_ne_true
  flagsAre_packFlags beq_iff_eq hfalse hfalse hout

/-- Settles O30: `exec_shiftOf_eq` is the next state of all forms; each operation's result is its `shiftValue` on exact
naturals, and bit 7, bit 0 or, for SWAP, none goes out into C. -/
theorem cbShifts : Obligations.CbShifts := by
  intro op o s b2
  have hleft := getLsbD_seven_iff (s.operand o)
  have hright := getLsbD_zero_iff (s.operand o)
  simp only [← flagC_toNat]
  refine ⟨decodeBytes_shiftOf op o b2, _, _, exec_shiftOf_eq op o s, ?_⟩
  cases op with
  | rlc => exact ⟨shiftValue_rlc_toNat _ s.flagC, flagsAre_shiftByte _ _ _ hleft⟩
  | rrc => exact ⟨shiftValue_rrc_toNat _ s.flagC, flagsAre_shiftByte _ _ _ hright⟩
  | rl => exact ⟨shiftValue_rl_toNat _ _, flagsAre_shiftByte _ _ _ hleft⟩
  | rr => exact ⟨shiftValue_rr_toNat _ _, flagsAre_shiftByte _ _ _ hright⟩
  | sla => exact ⟨shiftValue_sla_toNat _ s.flagC, flagsAre_shiftByte _ _ _ hleft⟩
  | sra => exact ⟨shiftValue_sra_toNat _ s.flagC, flagsAre_shiftByte _ _ _ hright⟩
  | swap => exact ⟨shiftValue_swap_toNat _ s.flagC, flagsAre_shiftByte _ _ _ (iff_false_intro Bool.false_ne_true)⟩
  | srl => exact ⟨shiftValue_srl_toNat _ s.flagC, flagsAre_shiftByte _ _ _ hright⟩

/-! ### BIT, RES and SET bit by bit (R379 to R381) -/

theorem getLsbD_one_shiftLeft (b : Fin 8) (k : Nat) : (1#8 <<< b.val).getLsbD k = decide (b.val = k) := by
  rw [← BitVec.twoPow_eq, BitVec.getLsbD_twoPow, decide_eq_true b.isLt, Bool.true_and]

theorem getLsbD_clearBit (v : Byte) (b : Fin 8) (k : Nat) :
    (v &&& ~~~(1#8 <<< b.val)).getLsbD k = if k = b.val then false else v.getLsbD k := by
  rw [BitVec.getLsbD_and, BitVec.getLsbD_not, getLsbD_one_shiftLeft]
  rcases eq_or_ne k b.val with rfl | hk
  · simp
  · have hin : v.getLsbD k = true → k < 8 := BitVec.lt_of_getLsbD
    simpa [hk, hk.symm] using hin

theorem getLsbD_setBit (v : Byte) (b : Fin 8) (k : Nat) :
    (v ||| 1#8 <<< b.val).getLsbD k = if k = b.val then true else v.getLsbD k := by
  rw [BitVec.getLsbD_or, getLsbD_one_shiftLeft]
  rcases eq_or_ne k b.val with rfl | hk
  · simp
  · simp [hk, hk.symm]

/-- Settles O31: the next states are `exec_bitOf_eq`, `exec_resOf_eq` and `exec_setOf_eq`; the masks clear and set the one
bit. -/
theorem cbBitResSet : Obligations.CbBitResSet := fun b o s b2 =>
  ⟨decodeBytes_bitOf b o b2, decodeBytes_resOf b o b2, decodeBytes_setOf b o b2,
    ⟨_, exec_bitOf_eq b o s, flagsAre_packFlags (iff_of_eq (Bool.not_eq_true' _)) (iff_false_intro Bool.false_ne_true)
      (iff_true_intro rfl) Iff.rfl⟩,
    ⟨_, exec_resOf_eq b o s, getLsbD_clearBit (s.operand o) b⟩, ⟨_, exec_setOf_eq b o s, getLsbD_setBit (s.operand o) b⟩⟩

end Sys2Proof.Machine
end

section
/-! PROOFS. The statements about taking interrupts (60_exceptions.md): the service, the check of a running and of a halted CPU,
the ageing of a pending IME change, and the halted step. -/

namespace Sys2Proof.Machine

open Sys2Proof

/-! ### The service (R405) -/

/-- The service as a whole: outside `Raw` it replaces only the fields written out here, from the state after the push. -/
theorem serviceInterrupt_eq (i : Nat) (s : State) : serviceInterrupt i s =
    { busWrite (s.sp - 2) (lowByte s.pc) (busWrite (s.sp - 1) (highByte s.pc) s) with
      raw := (serviceInterrupt i s).raw, sp := s.sp - 2, ime := false, imePend := .noChange, imePendFresh := false,
      pc := BitVec.ofNat 16 (0x40 + 8 * i), cycles := s.cycles + s.params.intServiceCycles } := by
  have hcycles := serviceInterrupt_cycles i s
  rw [serviceInterrupt, push16_eq_moved] at hcycles ⊢
  rw [← hcycles]
  rfl

/-- The service clears its bit of IF, as the push left IF (R405). -/
theorem serviceInterrupt_raw (i : Nat) (s : State) :
    let u := busWrite (s.sp - 2) (lowByte s.pc) (busWrite (s.sp - 1) (highByte s.pc) s)
    (serviceInterrupt i s).raw = (u.rawWrite ioIf (u.rawRead ioIf &&& ~~~(1#8 <<< i))).raw := by
  rw [serviceInterrupt, push16_eq_moved]
  rfl

/-- Settles O41: `serviceInterrupt_eq` is the whole next state, and `serviceInterrupt_raw` its one store after the push. -/
theorem interruptService : Obligations.InterruptService := by
  intro s i
  rw [extractLsb'_low, extractLsb'_high]
  refine ⟨serviceInterrupt_eq i s, fun n hn => ?_, fun hwf k => ?_⟩
  · rw [rawRead_congr _ _ (serviceInterrupt_raw i s), rawRead_rawWrite_other _ _ _ _ hn]
  · have hpushed := memoryWf_busWrite (s.sp - 2) (lowByte s.pc) _ (memoryWf_busWrite (s.sp - 1) (highByte s.pc) s hwf)
    rw [rawRead_congr _ _ (serviceInterrupt_raw i s), rawRead_rawWrite_same _ _ _ ((memoryWf_iff _).mp hpushed).1]
    exact getLsbD_clearBit _ (i.castLE (by decide)) k

/-! ### The lowest request (R404) -/

theorem lowestRequest_eq_some {p : Byte} {i : Nat} (hi : i < 5) (hset : p.getLsbD i = true)
    (hlow : ∀ j < i, p.getLsbD j = false) : lowestRequest p = some i := by
  interval_cases i <;> simp (disch := decide) only [lowestRequest, hset, hlow, Bool.false_eq_true, if_true, if_false]

/-- Of some set bits there is a lowest one. -/
theorem exists_lowest_bit {p : Byte} {n : Nat} (h : ∃ i < n, p.getLsbD i = true) :
    ∃ i < n, p.getLsbD i = true ∧ ∀ j < i, p.getLsbD j = false := by
  obtain ⟨hlt, hset⟩ := Nat.find_spec h
  refine ⟨Nat.find h, hlt, hset, fun j hj => ?_⟩
  have hmin := Nat.find_min h hj
  exact Bool.eq_false_of_not_eq_true fun hbit => hmin ⟨hj.trans hlt, hbit⟩

/-- The enabled requests are five bits: one of them is set unless there is none (R403). -/
theorem exists_enabledRequest {s : State} (h : enabledRequests s ≠ 0) : ∃ i < 5, (enabledRequests s).getLsbD i = true := by
  by_contra hnone
  push Not at hnone
  refine h (BitVec.eq_of_getLsbD_eq fun i hi => ?_)
  by_cases hlow : i < 5
  · rw [Bool.eq_false_of_not_eq_true (hnone i hlow), show (0 : Byte).getLsbD i = false from BitVec.getLsbD_zero]
  · have hmask : ∀ k < 8, ¬ k < 5 → (0x1F : Byte).getLsbD k = false := by decide
    rw [enabledRequests, BitVec.getLsbD_and, hmask i hi hlow, Bool.and_false]
    exact BitVec.getLsbD_zero.symm

/-! ### The interrupt check (R403) -/

theorem serviceCheck_eq_self {s : State} (h : s.ime = false ∨ enabledRequests s = 0) : serviceCheck s = s := by
  unfold serviceCheck
  rcases h with him | hnone
  · rw [him, if_neg Bool.false_ne_true]
  · rw [hnone]
    exact ite_self s

theorem serviceCheck_eq_service {s : State} {i : Nat} (him : s.ime = true) (hi : i < 5)
    (hset : (enabledRequests s).getLsbD i = true) (hlow : ∀ j < i, (enabledRequests s).getLsbD j = false) :
    serviceCheck s = serviceInterrupt i s := by
  rw [serviceCheck, if_pos him, lowestRequest_eq_some hi hset hlow]

theorem interruptCheck_running {s : State} (h : s.halted = false) : interruptCheck s = serviceCheck s := by
  rw [interruptCheck, h, if_neg Bool.false_ne_true]

theorem interruptCheck_asleep {s : State} (h : wakeRequests s = 0) (hh : s.halted = true) : interruptCheck s = s := by
  rw [interruptCheck, if_pos hh, if_pos h]

theorem interruptCheck_woken {s : State} (h : wakeRequests s ≠ 0) (hh : s.halted = true) :
    interruptCheck s = serviceCheck (woken s) := by
  rw [interruptCheck, if_pos hh, if_neg h]
  rfl

/-- Settles O42: the check of a CPU that is not halted is the service check, and a woken CPU is no longer halted. -/
theorem Interrupts.interruptCheck : Obligations.InterruptCheck := by
  intro s p w
  have hp : p = enabledRequests s := rfl
  have hw : w = wakeRequests s := rfl
  rw [hp, hw]
  refine ⟨fun hh hnone => ?_, fun hh him i hi hset hlow => ?_, fun hh hnone => interruptCheck_asleep hnone hh, fun hh hwake => ?_⟩
  · rw [interruptCheck_running hh, serviceCheck_eq_self hnone]
  · rw [interruptCheck_running hh, serviceCheck_eq_service him hi hset hlow]
  · rw [interruptCheck_woken hwake hh]
    exact (interruptCheck_running (s := woken s) rfl).symm

theorem interruptCheck_imeOff {s : State} (hh : s.halted = false) (him : s.ime = false) : interruptCheck s = s :=
  (interruptCheck_running hh).trans (serviceCheck_eq_self (.inl him))

/-- What the check of a halted CPU can do (R403, R404): it stays, or wakes, or wakes and services the lowest request. -/
theorem interruptCheck_halted_cases {s : State} (hh : s.halted = true) :
    (wakeRequests s = 0 ∧ interruptCheck s = s) ∨
    (wakeRequests s ≠ 0 ∧ (s.ime = false ∨ enabledRequests s = 0) ∧ interruptCheck s = woken s) ∨
    (wakeRequests s ≠ 0 ∧ ¬ (s.ime = false ∨ enabledRequests s = 0) ∧ ∃ i < 5, (enabledRequests s).getLsbD i = true ∧
      (∀ j < i, (enabledRequests s).getLsbD j = false) ∧ interruptCheck s = serviceInterrupt i (woken s)) := by
  by_cases hw : wakeRequests s = 0
  · exact .inl ⟨hw, interruptCheck_asleep hw hh⟩
  rw [interruptCheck_woken hw hh]
  by_cases hnone : s.ime = false ∨ enabledRequests s = 0
  · exact .inr (.inl ⟨hw, hnone, serviceCheck_eq_self (s := woken s) hnone⟩)
  · obtain ⟨him, hp⟩ := not_or.mp hnone
    obtain ⟨i, hi, hset, hlow⟩ := exists_lowest_bit (exists_enabledRequest hp)
    have hservice := serviceCheck_eq_service (s := woken s) (Bool.eq_true_of_not_eq_false him) hi hset hlow
    exact .inr (.inr ⟨hw, hnone, i, hi, hset, hlow, hservice⟩)

/-! ### With and without a latched failure (R400, R401) -/

theorem afterInstr_fault {s : State} (h : s.fault ≠ none) : afterInstr s = s :=
  if_pos (Option.isSome_iff_ne_none.mpr h)

theorem afterInstr_noFault {s : State} (h : s.fault = none) : afterInstr s = interruptCheck (agePending s) :=
  if_neg (by rw [h]; exact Bool.false_ne_true)

theorem devicesUpdate_fault {s : State} (h : s.fault ≠ none) : devicesUpdate s = s :=
  if_pos (Option.isSome_iff_ne_none.mpr h)

theorem devicesUpdate_noFault {s : State} (h : s.fault = none) :
    devicesUpdate s = timerUpdate s.cycles.toNat (ppuUpdate s.cycles.toNat s) :=
  if_neg (by rw [h]; exact Bool.false_ne_true)

/-! ### Ageing (R402) -/

/-- A running CPU step of EI with IME 0 leaves IME 0, and the change pending and aged (R354, R402). -/
theorem cpuStep_ei {s : State} (hrun : s.Running) (him : s.ime = false) (hfetch : fetchInstr s = .ei) : cpuStep s =
    .next { s with imePend := .enable, imePendFresh := false, pc := s.pc + 1, cycles := 4 } := by
  obtain ⟨hfault, hstopped, hhalted⟩ := hrun
  rcases cpuStep_cases s hfault with ⟨h, -⟩ | ⟨-, h, -⟩ | ⟨-, -, t, hexec, -, hstep⟩
  · exact absurd h (by rw [hstopped]; decide)
  · exact absurd h (by rw [hhalted]; decide)
  have ht : t = { s with imePend := .enable, imePendFresh := true, pc := s.pc + 1, cycles := 4 } := by
    rw [hfetch] at hexec
    exact (Host.Outcome.next.inj hexec).symm
  rw [hstep, afterInstr_noFault (by rw [ht, hfault]), ht]
  exact congrArg Host.Outcome.next (interruptCheck_imeOff (s := { s with
    imePend := .enable, imePendFresh := false, pc := s.pc + 1, cycles := 4 }) hhalted him)

/-- Settles O43: the ageing by the two fields of the pending change, and `cpuStep_ei`. -/
theorem pendingIme : Obligations.PendingIme := by
  intro s
  refine ⟨fun h => ?_, fun h hfresh => ?_, fun h hfresh => ?_, fun h hfresh => ?_, cpuStep_ei⟩
  · rw [agePending, h]
  · rw [agePending, hfresh]
    cases hp : s.imePend with
    | noChange => exact absurd hp h
    | enable => rfl
    | disable => rfl
  · rw [agePending, h, hfresh]
    rfl
  · rw [agePending, h, hfresh]
    rfl

/-! ### The halted step (R410) -/

theorem cpuStep_halted {s : State} (hfault : s.fault = none) (hstopped : s.stopped = false) (hh : s.halted = true) :
    cpuStep s = .next (haltedStep s) := by
  rcases cpuStep_cases s hfault with ⟨h, -⟩ | ⟨-, -, h⟩ | ⟨-, h, -⟩
  · exact absurd h (by rw [hstopped]; decide)
  · exact h
  · exact absurd h (by rw [hh]; decide)

/-- The eight registers (R30, R31). -/
def State.registers (s : State) : List Byte := [s.a, s.f, s.b, s.c, s.d, s.e, s.h, s.l]

theorem registers_eq_iff (s t : State) : t.registers = s.registers ↔
    t.a = s.a ∧ t.f = s.f ∧ t.b = s.b ∧ t.c = s.c ∧ t.d = s.d ∧ t.e = s.e ∧ t.h = s.h ∧ t.l = s.l := by
  simp only [State.registers, List.cons.injEq, and_true]

theorem registers_serviceCheck (s : State) : (serviceCheck s).registers = s.registers := by
  rcases serviceCheck_cases s with h | ⟨i, -, -, h⟩ <;> rw [h]
  exact (registers_eq_iff _ _).mpr (serviceInterrupt_registers i s)

theorem registers_interruptCheck (s : State) : (interruptCheck s).registers = s.registers := by
  rcases interruptCheck_cases s with ⟨-, -, h⟩ | ⟨-, -, h⟩ | ⟨-, h⟩ <;> rw [h]
  · exact registers_serviceCheck (woken s)
  · exact registers_serviceCheck s

theorem registers_devices (c : Nat) (s : State) : (timerUpdate c (ppuUpdate c s)).registers = s.registers := by
  rw [timerUpdate_eq, ppuUpdate_eq]
  rfl

/-- The devices leave the CPU's control fields as they are. -/
theorem control_devices (c : Nat) (s : State) {t : State} (ht : t = timerUpdate c (ppuUpdate c s)) :
    t.imePend = s.imePend ∧ t.imePendFresh = s.imePendFresh ∧ t.pc = s.pc ∧ t.sp = s.sp ∧ t.halted = s.halted ∧
      t.ime = s.ime ∧ t.cycles = s.cycles := by
  rw [ht, timerUpdate_eq, ppuUpdate_eq]
  exact ⟨rfl, rfl, rfl, rfl, rfl, rfl, rfl⟩

/-- What a halted CPU step can do (R410): wait, wake, or wake and service the lowest request, with its own cycles. -/
theorem haltedStep_cases {s : State} (hh : s.halted = true) :
    (wakeRequests s = 0 ∧ haltedStep s = { s with cycles := s.params.haltStepCycles.val }) ∨
    (wakeRequests s ≠ 0 ∧ (s.ime = false ∨ enabledRequests s = 0) ∧
      haltedStep s = { s with halted := false, pc := s.pc + 1, cycles := s.params.haltStepCycles.val }) ∨
    (wakeRequests s ≠ 0 ∧ ¬ (s.ime = false ∨ enabledRequests s = 0) ∧ ∃ i < 5, (enabledRequests s).getLsbD i = true ∧
      (∀ j < i, (enabledRequests s).getLsbD j = false) ∧ haltedStep s =
        serviceInterrupt i { s with halted := false, pc := s.pc + 1, cycles := s.params.haltStepCycles.val }) :=
  interruptCheck_halted_cases (s := { s with cycles := s.params.haltStepCycles.val }) hh

/-- The halted CPU step after the host's input. -/
theorem haltedStep_stepStart (s : State) : haltedStep (stepStart s) =
    interruptCheck { stepStart s with cycles := s.params.haltStepCycles.val } := by
  have hparams : (stepStart s).params = s.params := by rw [stepStart_eq]
  rw [← hparams]
  rfl

/-- A halted step is the interrupt check with the halted step's cycles, and then the devices (R400, R410). -/
theorem step_halted_eq {s u : State} (hfault : s.fault = none) (hstopped : s.stopped = false) (hh : s.halted = true)
    (hu : haltedStep (stepStart s) = u) : step s = .next (timerUpdate u.cycles.toNat (ppuUpdate u.cycles.toNat u)) := by
  have hnone : u.fault = none := by rw [← hu, haltedStep, interruptCheck_fault, stepStart_fault, hfault]
  rw [step_halted s hfault hstopped hh, hu, devicesUpdate_noFault hnone]

/-- Settles O45: the check of the halted CPU can do three things (`haltedStep_cases`), and the devices leave the CPU as the
check left it. -/
theorem Interrupts.haltedStep : Obligations.HaltedStep := by
  intro s hfault hstopped hh s0 w p u t serviced
  obtain ⟨raw, pressed, schedule, hs0⟩ : ∃ raw pressed schedule, s0 =
      { s with raw := raw, pressed := pressed, buttonSchedule := schedule, presented := none } := ⟨_, _, _, stepStart_eq s⟩
  have hu : Machine.haltedStep s0 = u := haltedStep_stepStart s
  have hregisters : t.registers = s.registers :=
    (registers_devices _ u).trans ((registers_interruptCheck _).trans (by rw [hs0]; rfl))
  obtain ⟨ha, hf, hb, hc, hd, he, hhReg, hl⟩ := (registers_eq_iff s t).mp hregisters
  obtain ⟨hpend, hfresh, hpc, hsp, hhalted, hime, hcycles⟩ := control_devices u.cycles.toNat u (t := t) rfl
  refine ⟨cpuStep_halted hfault hstopped hh, step_halted_eq hfault hstopped hh hu, ha, hf, hb, hc, hd, he, hhReg, hl, ?_⟩
  have hserviced : serviced ↔ w ≠ 0 ∧ ¬ (s.ime = false ∨ p = 0) := by
    rw [not_or, Bool.not_eq_false]
  rw [hpend, hfresh, hpc, hsp, hhalted, hime, hcycles]
  have hcases := haltedStep_cases (s := s0) (by rw [hs0]; exact hh)
  rw [hu, show wakeRequests s0 = w from rfl, show enabledRequests s0 = p from rfl] at hcases
  clear_value t u w p s0
  subst hs0
  rcases hcases with ⟨hw, rfl⟩ | ⟨hw, hnone, rfl⟩ | ⟨hw, hsome, i, hi, hset, hlow, rfl⟩
  · have hno : ¬ serviced := fun h => (hserviced.mp h).1 hw
    rw [if_neg hno, if_neg hno]
    exact ⟨rfl, rfl, fun _ => ⟨rfl, rfl, hh, rfl, rfl⟩, fun h => absurd hw h, fun h => absurd h hno⟩
  · have hno : ¬ serviced := fun h => (hserviced.mp h).2 hnone
    rw [if_neg hno, if_neg hno]
    exact ⟨rfl, rfl, fun h => absurd h hw, fun _ _ => ⟨rfl, rfl, rfl, rfl, rfl⟩, fun h => absurd h hno⟩
  · have hyes : serviced := hserviced.mpr ⟨hw, hsome⟩
    rw [if_pos hyes, if_pos hyes]
    exact ⟨rfl, rfl, fun h => absurd h hw, fun _ h => absurd h hsome, fun _ =>
      ⟨⟨i, hi, hset, hlow, rfl, rfl⟩, serviceInterrupt_sp _ _, serviceInterrupt_halted _ _, rfl, serviceInterrupt_cycles _ _⟩⟩

end Sys2Proof.Machine
end

section
/-! PROOFS. The statements about the step (60_exceptions.md): the host's input and the instruction of a running step, the
stopped step, and the step that latches a decode failure. -/

namespace Sys2Proof.Machine

open Sys2Proof

/-! ### The host's input (R430) -/

theorem buttonUpdates_eq_foldl (ks : List Buttons) (s : State) :
    buttonUpdates ks s = ks.foldl (fun u new => setButtons new u) s := by
  induction ks generalizing s with
  | nil => rfl
  | cons k ks ih => exact ih (setButtons k s)

theorem takeHostInput_nil {s : State} (h : s.buttonSchedule = []) : takeHostInput s = s := by
  rw [takeHostInput, h]

theorem takeHostInput_cons {s : State} {now : List Buttons} {later : List (List Buttons)}
    (h : s.buttonSchedule = now :: later) : takeHostInput s = buttonUpdates now { s with buttonSchedule := later } := by
  rw [takeHostInput, h]

/-! ### The running step (R400, R401) -/

/-- Of three bytes, `decode` answers the instruction of the maps: no instruction needs more (R141, R153). -/
theorem decodeBytes_of_decode {op b1 b2 : Byte} {i : Instr} {rest : List Byte} (h : decode [op, b1, b2] = .ok (i, rest)) :
    decodeBytes op b1 b2 = i := by
  rw [decode] at h
  split at h
  · cases h
  · exact congrArg Prod.fst (Except.ok.inj h)

/-- Settles O44: `step_running` is the step; after a decode failure neither the CPU nor the devices go on. -/
theorem stepRunsDecodedInstruction : Obligations.StepRunsDecodedInstruction := by
  refine ⟨fun s => takeHostInput_nil, fun s now later h => ?_, ?_⟩
  · rw [takeHostInput_cons h, buttonUpdates_eq_foldl]
  · intro s i rest hrun s0 hdecode
    obtain ⟨t, hexec, hstep⟩ := step_running s hrun
    have hfetch : fetchInstr (stepStart s) = i := decodeBytes_of_decode hdecode
    rw [hfetch] at hexec
    refine ⟨hfetch ▸ wellFormed_decodeBytes _ _ _, t, hexec, fun hfault => ?_, fun hnone => ?_⟩
    · rw [hstep, afterInstr_fault hfault, devicesUpdate_fault hfault]
    · rw [hstep, afterInstr_noFault hnone, devicesUpdate_noFault (by rw [interruptCheck_fault, agePending_fault, hnone])]

/-! ### The stopped step (R411) -/

theorem cpuStep_stopped {s : State} (hfault : s.fault = none) (hstopped : s.stopped = true) :
    cpuStep s = .next (stoppedStep s) := by
  rcases cpuStep_cases s hfault with ⟨-, h⟩ | ⟨h, -⟩ | ⟨h, -⟩
  · exact h
  all_goals exact absurd h (by rw [hstopped]; decide)

theorem restored_eq (s : State) : restored s = { s with raw := (restored s).raw, stopped := false } := by
  simp only [restored, State.rawWrite]

/-- The restore writes P1, LCDC and TAC only. -/
theorem rawRead_restored_other (s : State) (n : Nat) (hp1 : n ≠ ioP1) (hlcdc : n ≠ ioLcdc) (htac : n ≠ ioTac) :
    (restored s).rawRead n = s.rawRead n := by
  have hraw : (restored s).rawRead n =
      (((s.rawWrite ioP1 s.savedP1).rawWrite ioLcdc s.savedLcdc).rawWrite ioTac s.savedTac).rawRead n := rfl
  rw [hraw, rawRead_rawWrite_other _ _ _ _ htac, rawRead_rawWrite_other _ _ _ _ hlcdc, rawRead_rawWrite_other _ _ _ _ hp1]

/-- The three registers read as they were saved. -/
theorem rawRead_restored (s : State) (hwf : s.rawWf = true) :
    (restored s).rawRead ioP1 = s.savedP1 ∧ (restored s).rawRead ioLcdc = s.savedLcdc ∧
      (restored s).rawRead ioTac = s.savedTac := by
  have h1 := rawWf_rawWrite s ioP1 s.savedP1 (by decide) hwf
  have h2 := rawWf_rawWrite _ ioLcdc s.savedLcdc (by decide) h1
  refine ⟨?_, ?_, rawRead_rawWrite_same _ ioTac s.savedTac h2⟩
  · exact (rawRead_rawWrite_other _ ioTac ioP1 _ (by decide)).trans
      ((rawRead_rawWrite_other _ ioLcdc ioP1 _ (by decide)).trans (rawRead_rawWrite_same s ioP1 _ hwf))
  · exact (rawRead_rawWrite_other _ ioTac ioLcdc _ (by decide)).trans (rawRead_rawWrite_same _ ioLcdc s.savedLcdc h1)

/-- Settles O46: the stopped step is the restore once every button is released (`stoppedStep_eq`), and else only counts. -/
theorem Step.stoppedStep : Obligations.StoppedStep := by
  intro s hfault hstopped t released
  have ht : t = if released then restored { s with cycles := s.params.stopStepCycles.val }
      else { s with cycles := s.params.stopStepCycles.val } := stoppedStep_eq s
  refine ⟨cpuStep_stopped hfault hstopped, fun hpressed => ht.trans (if_neg hpressed), fun hreleased => ?_⟩
  rw [if_pos hreleased] at ht
  clear_value t
  subst ht
  refine ⟨restored_eq _, rawRead_restored_other { s with cycles := s.params.stopStepCycles.val }, fun hwf => ?_⟩
  exact rawRead_restored { s with cycles := s.params.stopStepCycles.val } ((memoryWf_iff s).mp hwf).1

/-! ### The decode failure (R408) -/

theorem unassigned_fault {s : State} (op : Byte) (h : s.params.illegalOpcodePolicy = .fault) :
    unassigned op s = .next (raiseDecodeFault op s) := by
  rw [unassigned, h]

/-- Settles O47: the unassigned opcode latches the failure (`unassigned_fault`), which stops everything after it in this step
and the next step whole (`step_fault`). -/
theorem decodeFailureStops : Obligations.DecodeFailureStops := by
  refine ⟨fun s op i hrun hpolicy hop hread => ?_, fun s op addr h => ?_⟩
  · obtain ⟨t, hexec, hstep⟩ := step_running s hrun
    obtain ⟨hdecode, hunassigned⟩ := unassignedOpcodes_eq hop (busRead (stepStart s) (s.pc + 1))
      (busRead (stepStart s) (s.pc + 2)) (stepStart s)
    have hpc : (stepStart s).pc = s.pc := by rw [stepStart_eq]
    have hparams : (stepStart s).params = s.params := by rw [stepStart_eq]
    have ht : t = { stepStart s with fault := some ⟨op, s.pc⟩, pc := s.pc + 1, cycles := -1 } := by
      rw [fetchInstr, hpc, hread, hdecode, hunassigned, unassigned_fault op (by rw [hparams, hpolicy])] at hexec
      rw [← Host.Outcome.next.inj hexec, raiseDecodeFault, hpc]
    have hfault : t.fault = some ⟨op, s.pc⟩ := by rw [ht]
    have hsome : t.fault ≠ none := by rw [hfault]; exact Option.some_ne_none _
    refine ⟨t, ?_, ht, step_fault t _ hfault, ?_, ?_⟩
    · rw [hstep, afterInstr_fault hsome, devicesUpdate_fault hsome]
    · rw [cpuStep_fault t (Option.isSome_iff_ne_none.mpr hsome), ht]
    · rw [diagnosticDump, ht, stepStart_eq]
      rfl
  · exact ⟨step_fault s _ h, cpuStep_fault s (by rw [h]; rfl)⟩

end Sys2Proof.Machine
end

section
/-! PROOFS. The statement about the divider and the timer (60_exceptions.md R420, R421). -/

namespace Sys2Proof.Machine

open Sys2Proof

/-! ### The divider (R420) -/

/-- DIV after an update: one more for every 256 cycles held (R420). -/
theorem rawRead_div_dividerUpdate (c : Nat) (s : State) (hwf : s.rawWf = true) :
    (dividerUpdate c s).rawRead ioDiv = s.rawRead ioDiv + BitVec.ofNat 8 ((s.divAcc + c) / 256) :=
  rawRead_div_divTicks ((s.divAcc + c) / 256) { s with divAcc := s.divAcc + c } hwf rfl

/-! ### TIMA (R421) -/

/-- The period that TAC[1:0] selects, on naturals (R49). -/
theorem timaPeriod_eq (tac : Byte) : timaPeriod tac =
    if tac.toNat % 4 = 0 then 1024 else if tac.toNat % 4 = 1 then 16 else if tac.toNat % 4 = 2 then 64 else 256 := by
  have hlt : tac.toNat % 4 < 4 := Nat.mod_lt _ (by decide)
  rw [timaPeriod, toNat_and_lowMask tac 0x03 2 rfl]
  change (match tac.toNat % 4 with | 0 => 1024 | 1 => 16 | 2 => 64 | _ => 256) = _
  interval_cases tac.toNat % 4 <;> rfl

/-- The state with TIMA's accumulator replaced. -/
def withTimaAcc (s : State) (n : Nat) : State := { s with timaAcc := n }

/-- A tick neither reads nor writes the accumulator. -/
theorem timaTick_withTimaAcc (s : State) (n : Nat) : timaTick (withTimaAcc s n) = withTimaAcc (timaTick s) n := by
  have hread : ∀ x, (withTimaAcc s n).rawRead x = s.rawRead x := fun _ => rfl
  simp only [timaTick, hread]
  split <;> rfl

theorem iterate_timaTick_withTimaAcc (k : Nat) (s : State) (n : Nat) :
    timaTick^[k] (withTimaAcc s n) = withTimaAcc (timaTick^[k] s) n := by
  induction k generalizing s with
  | zero => rfl
  | succ k ih => rw [Function.iterate_succ_apply, Function.iterate_succ_apply, timaTick_withTimaAcc, ih]

/-- TIMA's loop is one tick for every period held, and leaves the remainder (R421). -/
theorem timaTicks_eq_iterate (p k : Nat) (s : State) (hp : 0 < p) (h : s.timaAcc / p = k) :
    timaTicks p k s = withTimaAcc (timaTick^[k] s) (s.timaAcc % p) := by
  induction k generalizing s with
  | zero => rw [Nat.mod_eq_of_lt ((Nat.div_eq_zero_iff_lt hp).mp h)]; rfl
  | succ k ih =>
    have hle : p ≤ s.timaAcc := (Nat.div_pos_iff.mp (h ▸ Nat.succ_pos k)).2
    have hdiv : (s.timaAcc - p) / p = k := by rw [Nat.div_eq_sub_div hp hle] at h; omega
    have hacc : (timaTick (withTimaAcc s (s.timaAcc - p))).timaAcc = s.timaAcc - p := timaTick_timaAcc _
    calc timaTicks p (k + 1) s
      _ = timaTicks p k (timaTick (withTimaAcc s (s.timaAcc - p))) := if_pos hle
      _ = withTimaAcc (timaTick^[k + 1] (withTimaAcc s (s.timaAcc - p))) ((s.timaAcc - p) % p) := by
        rw [ih _ (by rw [hacc, hdiv]), hacc, Function.iterate_succ_apply]
      _ = withTimaAcc (timaTick^[k + 1] s) (s.timaAcc % p) := by
        rw [iterate_timaTick_withTimaAcc, ← Nat.mod_eq_sub_mod hle]
        rfl

/-- Enabled, TIMA ticks once a period (R421). -/
theorem timaUpdate_enabled (c : Nat) (s : State) (h : (s.rawRead ioTac).getLsbD 2 = true) : timaUpdate c s =
    withTimaAcc (timaTick^[(s.timaAcc + c) / timaPeriod (s.rawRead ioTac)] s)
      ((s.timaAcc + c) % timaPeriod (s.rawRead ioTac)) := by
  have hticks := timaTicks_eq_iterate (timaPeriod (s.rawRead ioTac)) _ (withTimaAcc s (s.timaAcc + c)) (timaPeriod_pos _) rfl
  rw [iterate_timaTick_withTimaAcc] at hticks
  exact (if_pos h).trans hticks

theorem timaUpdate_disabled (c : Nat) (s : State) (h : (s.rawRead ioTac).getLsbD 2 = false) : timaUpdate c s = s :=
  if_neg (by rw [h]; exact Bool.false_ne_true)

/-- A tick on overflow: TIMA is TMA, and the timer interrupt is requested (R421). -/
theorem rawRead_timaTick_overflow (s : State) (hwf : s.rawWf = true) (h : s.rawRead ioTima = 0xFF) :
    (timaTick s).rawRead ioTima = s.rawRead ioTma ∧ (timaTick s).rawRead ioIf = s.rawRead ioIf ||| 0x04 := by
  have hreload := rawWf_rawWrite s ioTima (s.rawRead ioTma) (by decide) hwf
  rw [timaTick, if_pos h]
  constructor
  · rw [rawRead_requestInterrupt_other _ _ _ (by decide), rawRead_rawWrite_same s _ _ hwf]
  · rw [requestInterrupt, rawRead_rawWrite_same _ _ _ hreload, rawRead_rawWrite_other _ _ _ _ (by decide)]
    rfl

/-- A tick without overflow (R421). -/
theorem rawRead_timaTick_count (s : State) (hwf : s.rawWf = true) (h : s.rawRead ioTima ≠ 0xFF) :
    (timaTick s).rawRead ioTima = s.rawRead ioTima + 1 ∧ (timaTick s).rawRead ioIf = s.rawRead ioIf := by
  rw [timaTick, if_neg h]
  exact ⟨rawRead_rawWrite_same s _ _ hwf, rawRead_rawWrite_other _ _ _ _ (by decide)⟩

/-- Settles O48: the divider by its turns, TIMA by its ticks (`timaTicks_eq_iterate`), and what one tick does. -/
theorem Timer.timerUpdate : Obligations.TimerUpdate := by
  intro s c hwf d tac period
  have hraw : s.rawWf = true := ((memoryWf_iff s).mp hwf).1
  have hperiod : period = timaPeriod tac := (timaPeriod_eq tac).symm
  refine ⟨rfl, ?_, ?_, fun n => rawRead_dividerUpdate_other c s n, timaUpdate_disabled c s, ?_, timaTick_eq s,
    rawRead_timaTick_other s, rawRead_timaTick_overflow s hraw, rawRead_timaTick_count s hraw⟩
  · rw [← dividerUpdate_divAcc]
    exact dividerUpdate_eq c s
  · rw [rawRead_div_dividerUpdate c s hraw, BitVec.toNat_add, BitVec.toNat_ofNat, Nat.add_mod_mod]
  · rw [hperiod]
    exact timaUpdate_enabled c s

end Sys2Proof.Machine
end

section
/-! PROOFS. The statements about the video's mode sequencer (60_exceptions.md R440 to R445): the mode and its requests, and
the line advance. -/

namespace Sys2Proof.Machine

open Sys2Proof

/-! ### The LCD off (R440) -/

theorem ppuUpdate_off {c : Nat} {s : State} (h : (s.rawRead ioLcdc).getLsbD 7 = false) : ppuUpdate c s = lcdOff s :=
  if_neg (by rw [h]; exact Bool.false_ne_true)

/-- STAT with the LCD off: mode 0. -/
theorem rawRead_stat_lcdOff (s : State) (hwf : s.rawWf = true) :
    (lcdOff s).rawRead ioStat = s.rawRead ioStat &&& 0xFC := by
  have hly := rawWf_rawWrite s ioLy 0 (by decide) hwf
  have hstat : (s.rawWrite ioLy 0).rawRead ioStat = s.rawRead ioStat := rawRead_rawWrite_other s ioLy ioStat 0 (by decide)
  rw [← hstat]
  exact rawRead_rawWrite_same (s.rawWrite ioLy 0) ioStat _ hly

/-- The LCD going off writes LY and STAT only. -/
theorem rawRead_lcdOff_other (s : State) (n : Nat) (hly : n ≠ ioLy) (hstat : n ≠ ioStat) :
    (lcdOff s).rawRead n = s.rawRead n :=
  (rawRead_rawWrite_other _ ioStat n _ hstat).trans (rawRead_rawWrite_other _ ioLy n 0 hly)

/-! ### The mode (R442) -/

theorem videoMode_toNat (ly : Byte) (acc : Nat) : (videoMode ly acc).toNat =
    if ly.toNat ≥ 144 then 1 else if acc < 80 then 2 else if acc < 252 then 3 else 0 := by
  simp only [videoMode, apply_ite BitVec.toNat]
  rfl

/-- The mode in the two low bits of STAT, on naturals. -/
theorem toNat_stat_mode (stat : Byte) (mode : Shade) :
    ((stat &&& 0xFC) ||| mode.setWidth 8).toNat = stat.toNat / 4 * 4 + mode.toNat := by
  have hmask : ∀ v : Byte, (v &&& 0xFC).toNat = (v.toNat / 4) <<< 2 := by decide +kernel
  have hmode : mode.toNat < 2 ^ 2 := mode.isLt
  rw [BitVec.toNat_or, hmask, BitVec.toNat_setWidth, Nat.mod_eq_of_lt (by omega), ← Nat.shiftLeft_add_eq_or_of_lt hmode,
    Nat.shiftLeft_eq]

/-- The mode does not reach the bits of STAT that ask for requests. -/
theorem getLsbD_stat_mode (stat : Byte) (mode : Shade) {k : Nat} (hlo : 2 ≤ k) (hhi : k < 8) :
    ((stat &&& 0xFC) ||| mode.setWidth 8).getLsbD k = stat.getLsbD k := by
  have hmask : ∀ i < 8, 2 ≤ i → (0xFC : Byte).getLsbD i = true := by decide
  rw [BitVec.getLsbD_or, BitVec.getLsbD_and, hmask k hhi hlo, Bool.and_true, BitVec.getLsbD_setWidth,
    BitVec.getLsbD_of_ge mode k hlo, Bool.and_false, Bool.or_false]

theorem rawRead_stat_setMode (mode : Shade) (s : State) (hwf : s.rawWf = true) :
    (setMode mode s).rawRead ioStat = (s.rawRead ioStat &&& 0xFC) ||| mode.setWidth 8 :=
  rawRead_rawWrite_same s ioStat _ hwf

theorem rawRead_setMode_other (mode : Shade) (s : State) (n : Nat) (h : n ≠ ioStat) :
    (setMode mode s).rawRead n = s.rawRead n := rawRead_rawWrite_other s ioStat n _ h

theorem rawWf_setMode (mode : Shade) (s : State) (hwf : s.rawWf = true) : (setMode mode s).rawWf = true :=
  rawWf_rawWrite s ioStat _ (by decide) hwf

/-! ### The mode's requests (R442) -/

/-- A mode's request is made: the mode is the wanted one, its bit of STAT is set and its latch is clear. -/
def modeAsks (wanted : Shade) (bit : Nat) (latch : Bool) (mode : Shade) (s : State) : Bool :=
  decide (mode = wanted) && (s.rawRead ioStat).getLsbD bit && !latch

theorem modeAsks_iff (wanted : Shade) (bit : Nat) (latch : Bool) (mode : Shade) (s : State) :
    modeAsks wanted bit latch mode s = true ↔
      mode.toNat = wanted.toNat ∧ (s.rawRead ioStat).getLsbD bit = true ∧ latch = false := by
  simp only [modeAsks, Bool.and_eq_true, decide_eq_true_eq, Bool.not_eq_true', and_assoc, BitVec.toNat_inj]

/-- The bits that ask for requests are as they were before the mode went into STAT. -/
theorem modeAsks_of_stat {s t : State} {mode : Shade} (wanted : Shade) {bit : Nat} (latch : Bool) (hlo : 2 ≤ bit)
    (hhi : bit < 8) (h : t.rawRead ioStat = (s.rawRead ioStat &&& 0xFC) ||| mode.setWidth 8) :
    modeAsks wanted bit latch mode t = modeAsks wanted bit latch mode s := by
  rw [modeAsks, h, getLsbD_stat_mode _ _ hlo hhi]
  rfl

theorem oamRequest_eq_ite (mode : Shade) (s : State) : oamRequest mode s =
    if modeAsks 2 5 s.oamLatch mode s = true then { requestInterrupt 1 s with oamLatch := true } else s := by
  simp only [oamRequest, modeAsks, Bool.and_eq_true, decide_eq_true_eq, Bool.not_eq_true', Bool.not_eq_true, and_assoc]

theorem hblankRequest_eq_ite (mode : Shade) (s : State) : hblankRequest mode s =
    if modeAsks 0 3 s.hblankLatch mode s = true then { requestInterrupt 1 s with hblankLatch := true } else s := by
  simp only [hblankRequest, modeAsks, Bool.and_eq_true, decide_eq_true_eq, Bool.not_eq_true', Bool.not_eq_true, and_assoc]

theorem vblankRequest_eq_ite (mode : Shade) (s : State) : vblankRequest mode s =
    if modeAsks 1 4 s.vblankLatch mode s = true then { requestInterrupt 1 s with vblankLatch := true } else s := by
  simp only [vblankRequest, modeAsks, Bool.and_eq_true, decide_eq_true_eq, Bool.not_eq_true', Bool.not_eq_true, and_assoc]

/-- What a request made under a condition does to `Raw`: IF, and no more. -/
theorem raw_request_ite {b : Bool} {t u : State} (hwf : u.rawWf = true) (ht : t.raw = (requestInterrupt 1 u).raw) :
    (if b = true then t else u).rawWf = true ∧
    (if b = true then t else u).rawRead ioIf = if b = true then u.rawRead ioIf ||| 0x02 else u.rawRead ioIf := by
  cases b with
  | false => exact ⟨hwf, rfl⟩
  | true =>
    refine ⟨?_, (rawRead_congr _ _ ht ioIf).trans (rawRead_rawWrite_same u ioIf _ hwf)⟩
    exact (congrArg (Memory.wf rawReset 0x10000) ht).trans (rawWf_rawWrite u ioIf _ (by decide) hwf)

theorem raw_oamRequest (mode : Shade) {s : State} (hwf : s.rawWf = true) :
    (oamRequest mode s).rawWf = true ∧ (oamRequest mode s).rawRead ioIf =
      if modeAsks 2 5 s.oamLatch mode s = true then s.rawRead ioIf ||| 0x02 else s.rawRead ioIf := by
  rw [oamRequest_eq_ite]
  exact raw_request_ite hwf rfl

theorem raw_hblankRequest (mode : Shade) {s : State} (hwf : s.rawWf = true) :
    (hblankRequest mode s).rawWf = true ∧ (hblankRequest mode s).rawRead ioIf =
      if modeAsks 0 3 s.hblankLatch mode s = true then s.rawRead ioIf ||| 0x02 else s.rawRead ioIf := by
  rw [hblankRequest_eq_ite]
  exact raw_request_ite hwf rfl

theorem raw_vblankRequest (mode : Shade) {s : State} (hwf : s.rawWf = true) :
    (vblankRequest mode s).rawWf = true ∧ (vblankRequest mode s).rawRead ioIf =
      if modeAsks 1 4 s.vblankLatch mode s = true then s.rawRead ioIf ||| 0x02 else s.rawRead ioIf := by
  rw [vblankRequest_eq_ite]
  exact raw_request_ite hwf rfl

/-- A latch is set with its request. -/
theorem latch_ite (b latch : Bool) : (if b = true then true else latch) = (latch || b) := by
  cases b <;> simp

/-! ### The mode update (R442) -/

/-- STAT stays as the mode was written into it, and the latch of each request as it was, until the request is made. -/
theorem modeAsks_before_requests {s : State} (hwf : s.rawWf = true) {mode : Shade} {u v w : State} (hu : u = setMode mode s)
    (hv : v = oamRequest mode u) (hw : w = hblankRequest mode v) :
    modeAsks 2 5 u.oamLatch mode u = modeAsks 2 5 s.oamLatch mode s ∧
    modeAsks 0 3 v.hblankLatch mode v = modeAsks 0 3 s.hblankLatch mode s ∧
    modeAsks 1 4 w.vblankLatch mode w = modeAsks 1 4 s.vblankLatch mode s := by
  have hustat : u.rawRead ioStat = _ := hu ▸ rawRead_stat_setMode mode s hwf
  have hvstat : v.rawRead ioStat = _ := hv ▸ (rawRead_oamRequest_other mode u ioStat (by decide)).trans hustat
  have hwstat : w.rawRead ioStat = _ := hw ▸ (rawRead_hblankRequest_other mode v ioStat (by decide)).trans hvstat
  rw [modeAsks_of_stat 2 _ (by decide) (by decide) hustat, modeAsks_of_stat 0 _ (by decide) (by decide) hvstat,
    modeAsks_of_stat 1 _ (by decide) (by decide) hwstat, hw, hblankRequest_eq, hv, oamRequest_eq, hu]
  exact ⟨rfl, rfl, rfl⟩

/-- The latches after the mode update: each is set with its mode's request. -/
theorem modeUpdate_latches {s : State} (hwf : s.rawWf = true) {mode : Shade}
    (hmode : mode = videoMode (s.rawRead ioLy) s.lineAcc) :
    (modeUpdate s).oamLatch = (s.oamLatch || modeAsks 2 5 s.oamLatch mode s) ∧
    (modeUpdate s).hblankLatch = (s.hblankLatch || modeAsks 0 3 s.hblankLatch mode s) ∧
    (modeUpdate s).vblankLatch = (s.vblankLatch || modeAsks 1 4 s.vblankLatch mode s) := by
  have hupdate : modeUpdate s = vblankRequest mode (hblankRequest mode (oamRequest mode (setMode mode s))) := hmode ▸ rfl
  obtain ⟨hoam, hhblank, hvblank⟩ := modeAsks_before_requests hwf (mode := mode) rfl rfl rfl
  rw [hupdate, ← hoam, ← hhblank, ← hvblank]
  refine ⟨?_, ?_, ?_⟩
  · rw [vblankRequest_eq, hblankRequest_eq, oamRequest_eq_ite, apply_ite State.oamLatch, latch_ite]
    rfl
  · rw [vblankRequest_eq, hblankRequest_eq_ite, apply_ite State.hblankLatch, latch_ite, oamRequest_eq]
    rfl
  · rw [vblankRequest_eq_ite, apply_ite State.vblankLatch, latch_ite, hblankRequest_eq, oamRequest_eq]
    rfl

/-- IF after the mode update: the LCD's bit is set if one of the three requests is made. -/
theorem rawRead_if_modeUpdate {s : State} (hwf : s.rawWf = true) {mode : Shade}
    (hmode : mode = videoMode (s.rawRead ioLy) s.lineAcc) : (modeUpdate s).rawRead ioIf =
      if (modeAsks 2 5 s.oamLatch mode s || modeAsks 0 3 s.hblankLatch mode s || modeAsks 1 4 s.vblankLatch mode s) = true
      then s.rawRead ioIf ||| 0x02 else s.rawRead ioIf := by
  have hupdate : modeUpdate s = vblankRequest mode (hblankRequest mode (oamRequest mode (setMode mode s))) := hmode ▸ rfl
  obtain ⟨hoam, hhblank, hvblank⟩ := modeAsks_before_requests hwf (mode := mode) rfl rfl rfl
  obtain ⟨hwf1, hif1⟩ := raw_oamRequest mode (rawWf_setMode mode s hwf)
  obtain ⟨hwf2, hif2⟩ := raw_hblankRequest mode hwf1
  obtain ⟨-, hif3⟩ := raw_vblankRequest mode hwf2
  rw [hupdate, hif3, hif2, hif1, hoam, hhblank, hvblank, rawRead_setMode_other mode s ioIf (by decide)]
  generalize modeAsks 2 5 _ _ _ = oam, modeAsks 0 3 _ _ _ = hblank, modeAsks 1 4 _ _ _ = vblank
  cases oam <;> cases hblank <;> cases vblank <;> simp [BitVec.or_assoc]

/-- STAT after the mode update (R442). -/
theorem rawRead_stat_modeUpdate (s : State) (hwf : s.rawWf = true) : (modeUpdate s).rawRead ioStat =
    (s.rawRead ioStat &&& 0xFC) ||| (videoMode (s.rawRead ioLy) s.lineAcc).setWidth 8 := by
  rw [modeUpdate, rawRead_vblankRequest_other _ _ _ (by decide), rawRead_hblankRequest_other _ _ _ (by decide),
    rawRead_oamRequest_other _ _ _ (by decide), rawRead_stat_setMode _ s hwf]

/-- Settles O49: `lcdOff` with the LCD off; the mode update by its latches, STAT and IF. -/
theorem Video.videoMode : Obligations.VideoMode := by
  intro s c hwf off t ly mode stat oam hblank vblank
  have hraw : s.rawWf = true := ((memoryWf_iff s).mp hwf).1
  have hmode : mode = (Machine.videoMode (s.rawRead ioLy) s.lineAcc).toNat := (videoMode_toNat _ _).symm
  have hoam : oam ↔ _ = true := hmode ▸ (modeAsks_iff 2 5 s.oamLatch _ s).symm
  have hhblank : hblank ↔ _ = true := hmode ▸ (modeAsks_iff 0 3 s.hblankLatch _ s).symm
  have hvblank : vblank ↔ _ = true := hmode ▸ (modeAsks_iff 1 4 s.vblankLatch _ s).symm
  obtain ⟨hoamLatch, hhblankLatch, hvblankLatch⟩ := modeUpdate_latches hraw rfl
  refine ⟨fun hoff => ?_, ?_, ?_, ?_, rawRead_modeUpdate_other s⟩
  · have hlcd : off = lcdOff s := ppuUpdate_off hoff
    rw [hlcd]
    exact ⟨lcdOff_eq s, rawRead_ly_lcdOff s hraw, rawRead_stat_lcdOff s hraw, rawRead_lcdOff_other s⟩
  · simp only [hoam, hhblank, hvblank, Bool.decide_eq_true, ← hoamLatch, ← hhblankLatch, ← hvblankLatch]
    exact modeUpdate_eq s
  · rw [rawRead_stat_modeUpdate s hraw, toNat_stat_mode, ← hmode]
  · simp only [hoam, hhblank, hvblank, ← Bool.or_eq_true, ← Bool.or_assoc]
    exact rawRead_if_modeUpdate hraw rfl

/-! ### The line advance (R443) -/

/-- LY's value after an advance, as an exact natural (R443). -/
theorem nextLine_eq_mod {ly : Byte} (h : ly.toNat ≤ 153) : nextLine ly = (ly.toNat + 1) % 154 := by
  unfold nextLine
  split <;> omega

/-- The state that a line advance compares with LYC and renders: the latches cleared and LY moved. -/
def lineMoved (s : State) : State := (clearLatches s).rawWrite ioLy (BitVec.ofNat 8 (nextLine (s.rawRead ioLy)))

theorem lineAdvance_eq_lineMoved (s : State) : lineAdvance s =
    vblankStart (nextLine (s.rawRead ioLy)) (checkCoincidence (renderVisible (nextLine (s.rawRead ioLy)) (lineMoved s))) :=
  rfl

theorem rawWf_renderVisible (n : Nat) (s : State) : (renderVisible n s).rawWf = s.rawWf := by
  rw [renderVisible_eq]
  rfl

/-- What a line advance sees in `Raw` before its coincidence check. -/
theorem rawRead_rendered (s : State) (hwf : s.rawWf = true) (n : Nat) :
    (renderVisible n (lineMoved s)).rawWf = true ∧
    (renderVisible n (lineMoved s)).rawRead ioLy = BitVec.ofNat 8 (nextLine (s.rawRead ioLy)) ∧
    ∀ x, x ≠ ioLy → (renderVisible n (lineMoved s)).rawRead x = s.rawRead x := by
  refine ⟨?_, ?_, fun x hx => ?_⟩
  · rw [rawWf_renderVisible]
    exact rawWf_rawWrite (clearLatches s) ioLy _ (by decide) hwf
  · rw [rawRead_renderVisible]
    exact rawRead_rawWrite_same (clearLatches s) ioLy _ hwf
  · rw [rawRead_renderVisible]
    exact rawRead_rawWrite_other (clearLatches s) ioLy x _ hx

/-- STAT after a line advance: the coincidence bit (R443, R444). -/
theorem rawRead_stat_lineAdvance (s : State) (hwf : s.rawWf = true) : (lineAdvance s).rawRead ioStat =
    if BitVec.ofNat 8 (nextLine (s.rawRead ioLy)) = s.rawRead ioLyc then s.rawRead ioStat ||| 0x04
    else s.rawRead ioStat &&& 0xFB := by
  obtain ⟨hwf', hly, hother⟩ := rawRead_rendered s hwf (nextLine (s.rawRead ioLy))
  rw [lineAdvance_eq_lineMoved, rawRead_vblankStart_other _ _ _ (by decide), rawRead_stat_checkCoincidence _ hwf', hly,
    hother ioLyc (by decide), hother ioStat (by decide)]

theorem rawWf_checkCoincidence (s : State) (hwf : s.rawWf = true) : (checkCoincidence s).rawWf = true := by
  unfold checkCoincidence
  have hstat := fun v => rawWf_rawWrite s ioStat v (by decide) hwf
  dsimp only
  split
  · split
    · exact rawWf_rawWrite _ ioIf _ (by decide) (hstat _)
    · exact hstat _
  · exact hstat _

/-- IF at the start of VBlank (R443). -/
theorem rawRead_if_vblankStart (n : Nat) (s : State) (hwf : s.rawWf = true) :
    (vblankStart n s).rawRead ioIf = if n = 144 then s.rawRead ioIf ||| 0x01 else s.rawRead ioIf := by
  unfold vblankStart
  split
  · exact rawRead_rawWrite_same s ioIf _ hwf
  · rfl

/-- A request made under a condition, bit by bit. -/
theorem getLsbD_request_ite {P : Prop} [Decidable P] (x : Byte) {v : Byte} (i : Fin 8) (hv : v = 1#8 <<< i.val) (k : Nat) :
    (if P then x ||| v else x).getLsbD k = (x.getLsbD k || decide (k = i.val ∧ P)) := by
  by_cases hP : P
  · rw [if_pos hP, hv, BitVec.getLsbD_or, getLsbD_one_shiftLeft]
    simp only [hP, and_true, eq_comm]
  · rw [if_neg hP]
    simp only [hP, and_false, decide_false, Bool.or_false]

/-- IF after a line advance: the VBlank and the LCD request (R443, R444). -/
theorem getLsbD_if_lineAdvance (s : State) (hwf : s.rawWf = true) (k : Nat) :
    ((lineAdvance s).rawRead ioIf).getLsbD k =
      ((s.rawRead ioIf).getLsbD k || decide (k = 0 ∧ nextLine (s.rawRead ioLy) = 144) ||
        decide (k = 1 ∧ BitVec.ofNat 8 (nextLine (s.rawRead ioLy)) = s.rawRead ioLyc ∧
          (s.rawRead ioStat).getLsbD 6 = true)) := by
  obtain ⟨hwf', hly, hother⟩ := rawRead_rendered s hwf (nextLine (s.rawRead ioLy))
  rw [lineAdvance_eq_lineMoved, rawRead_if_vblankStart _ _ (rawWf_checkCoincidence _ hwf'),
    rawRead_if_checkCoincidence _ hwf', hly, hother ioLyc (by decide), hother ioStat (by decide), hother ioIf (by decide),
    getLsbD_request_ite _ (v := 0x01) 0 rfl, getLsbD_request_ite _ (v := 0x02) 1 rfl, Bool.or_right_comm]
  rfl

/-- The renderer does not look at the latches (R450). -/
theorem renderedRow_clearLatches (s : State) (n ly : Nat) (v : Byte) :
    renderedRow ((clearLatches s).rawWrite n v) ly = renderedRow (s.rawWrite n v) ly := rfl

/-- The framebuffer after a line advance: the new line, if it is visible (R443, R457). -/
theorem fbRow_lineAdvance (s : State) (hwf : s.memoryWf = true) (y : Nat) : (lineAdvance s).fbRow y =
    if y = nextLine (s.rawRead ioLy) ∧ nextLine (s.rawRead ioLy) < 144 then
      renderedRow (s.rawWrite ioLy (BitVec.ofNat 8 (nextLine (s.rawRead ioLy)))) (nextLine (s.rawRead ioLy))
    else s.fbRow y := by
  obtain ⟨-, -, -, hfb, -⟩ := (memoryWf_iff s).mp hwf
  generalize hnext : nextLine (s.rawRead ioLy) = next
  have hlast : (lineAdvance s).fb = (renderVisible next (lineMoved s)).fb := by
    rw [lineAdvance_eq_lineMoved, hnext, vblankStart_eq]
    exact checkCoincidence_fb _
  rw [State.fbRow, hlast, renderVisible]
  by_cases hvisible : next < 144
  · rw [if_pos hvisible]
    by_cases hy : y = next
    · rw [if_pos ⟨hy, hvisible⟩, hy]
      refine (Memory.read_write_same blankRow 144 s.fb next _ hfb).trans ?_
      rw [lineMoved, hnext, renderedRow_clearLatches]
    · rw [if_neg fun h => hy h.1]
      exact Memory.read_write_other blankRow s.fb next y _ hy
  · rw [if_neg hvisible, if_neg fun h => hvisible h.2]
    rfl

theorem presented_vblankStart (n : Nat) (s : State) : (vblankStart n s).presented =
    if n = 144 then some (vblankStart n s).fb else s.presented := by
  unfold vblankStart
  split <;> rfl

/-- The advance to line 144 hands over the frame as it is after it (R443, R457). -/
theorem presented_lineAdvance (s : State) : (lineAdvance s).presented =
    if nextLine (s.rawRead ioLy) = 144 then some (lineAdvance s).fb else s.presented := by
  have hbefore : (checkCoincidence (renderVisible (nextLine (s.rawRead ioLy)) (lineMoved s))).presented = s.presented := by
    rw [checkCoincidence_presented, renderVisible_eq]
    rfl
  rw [lineAdvance_eq_lineMoved, presented_vblankStart, hbefore]

/-- The VBlank latch is cleared at the wrap past line 153 (R443). -/
theorem vblankLatch_clearLatches (s : State) : (clearLatches s).vblankLatch =
    if nextLine (s.rawRead ioLy) = 0 then false else s.vblankLatch := by
  have hwrap : (s.rawRead ioLy).toNat + 1 > 153 ↔ nextLine (s.rawRead ioLy) = 0 := by
    unfold nextLine
    split <;> omega
  rw [clearLatches]
  simp only [hwrap]

/-! ### The video update (R441) -/

/-- LY after a number of line advances (R441, R443). -/
theorem rawRead_ly_iterate_lineAdvance (k : Nat) (s : State) (hwf : s.memoryWf = true)
    (hly : (s.rawRead ioLy).toNat ≤ 153) :
    ((lineAdvance^[k] s).rawRead ioLy).toNat = ((s.rawRead ioLy).toNat + k) % 154 := by
  induction k generalizing s with
  | zero => exact (Nat.mod_eq_of_lt (show (s.rawRead ioLy).toNat < 154 by omega)).symm
  | succ k ih =>
    have hnext : ((lineAdvance s).rawRead ioLy).toNat = ((s.rawRead ioLy).toNat + 1) % 154 := by
      rw [rawRead_ly_lineAdvance s ((memoryWf_iff s).mp hwf).1, nextLine_eq_mod hly, BitVec.toNat_ofNat]
      omega
    rw [Function.iterate_succ_apply, ih _ (memoryWf_lineAdvance s hwf) (by omega), hnext]
    omega

/-- An update with the LCD on is one line advance for every 456 cycles held, and then the mode update (R441). -/
theorem ppuUpdate_on {c : Nat} {s : State} (h : (s.rawRead ioLcdc).getLsbD 7 = true) : ppuUpdate c s =
    modeUpdate (withLineAcc (lineAdvance^[(s.lineAcc + c) / 456] s) ((s.lineAcc + c) % 456)) := by
  have hloop := lineLoop_eq_iterate ((s.lineAcc + c) / 456) (withLineAcc s (s.lineAcc + c)) rfl
  rw [iterate_lineAdvance_withLineAcc] at hloop
  exact (if_pos h).trans (congrArg modeUpdate hloop)

/-- Settles O50: the update by its line advances (`ppuUpdate_on`), and one line advance by what it leaves in each place. -/
theorem videoLines : Obligations.VideoLines := by
  intro s c hwf hly u t next hit lyc
  have hraw : s.rawWf = true := ((memoryWf_iff s).mp hwf).1
  have hnext : nextLine (s.rawRead ioLy) = next := nextLine_eq_mod hly
  refine ⟨fun hon => ?_, ?_, ?_, ?_, fun k => ?_, rawRead_lineAdvance_other s, fun y => ?_⟩
  · have hu : u = _ := ppuUpdate_on hon
    refine ⟨hu, ?_, ?_⟩
    · rw [hu, modeUpdate_lineAcc]
      rfl
    · rw [hu, rawRead_modeUpdate_other _ _ (by decide) (by decide)]
      exact rawRead_ly_iterate_lineAdvance _ s hwf hly
  · rw [← hnext, ← presented_lineAdvance, ← vblankLatch_clearLatches]
    exact lineAdvance_eq s
  · rw [rawRead_ly_lineAdvance s hraw, hnext, BitVec.toNat_ofNat]
    omega
  · rw [rawRead_stat_lineAdvance s hraw, hnext]
  · rw [getLsbD_if_lineAdvance s hraw, hnext]
  · rw [fbRow_lineAdvance s hwf, hnext]

end Sys2Proof.Machine
end

section
/-! PROOFS. The statements about the rasterizer (60_exceptions.md R450 to R457): the background pass pixel by pixel, and the
sprites drawn over it. -/

namespace Sys2Proof.Machine

open Sys2Proof

/-! ### Colour indexes, palettes and tiles (R452, R453) -/

theorem colourIndex_toNat (lo hi : Byte) (bit : Nat) : (colourIndex lo hi bit).toNat =
    2 * (if hi.getLsbD bit = true then 1 else 0) + if lo.getLsbD bit = true then 1 else 0 := by
  rw [colourIndex, BitVec.toNat_append, BitVec.toNat_ofBool, BitVec.toNat_ofBool]
  cases hi.getLsbD bit <;> cases lo.getLsbD bit <;> rfl

theorem paletteShade_toNat (pal : Byte) (ci : Shade) : (paletteShade pal ci).toNat = pal.toNat / 4 ^ ci.toNat % 4 := by
  rw [paletteShade, BitVec.toNat_setWidth, BitVec.toNat_ushiftRight, Nat.shiftRight_eq_div_pow, Nat.pow_mul]

theorem tileAddress_eq (lcdc t : Byte) : tileAddress lcdc t =
    (if lcdc.getLsbD 4 = true then 0x8000 + 16 * (t.toNat : Int) else 0x9000 + 16 * t.toInt).toNat := by
  rw [tileAddress, apply_ite Int.toNat]
  rfl

/-! ### The background pass (R451) -/

theorem windowCovers_iff (s : State) (ly x : Nat) : windowCovers s ly x = true ↔
    (s.rawRead ioLcdc).getLsbD 5 = true ∧ (s.rawRead ioWy).toNat ≤ ly ∧
      (x : Int) ≥ ((s.rawRead ioWx).toNat : Int) - 7 := by
  have hx : (s.rawRead ioWx).toNat ≤ x + 7 ↔ (x : Int) ≥ ((s.rawRead ioWx).toNat : Int) - 7 := by omega
  rw [windowCovers, Bool.and_eq_true, Bool.and_eq_true, decide_eq_true_iff, decide_eq_true_iff, hx, and_assoc]

/-- A background pixel is a pixel of the one map that the window decides on (R451). -/
theorem backgroundPixel_eq {s : State} {ly x : Nat} {window : Prop} [Decidable window]
    (hwindow : windowCovers s ly x = true ↔ window) : backgroundPixel s ly x =
    mapPixel s
      (if (if window then (s.rawRead ioLcdc).getLsbD 6 else (s.rawRead ioLcdc).getLsbD 3) = true then 0x9C00 else 0x9800)
      (if window then ((x : Int) - (((s.rawRead ioWx).toNat : Int) - 7)).toNat
        else (x + (s.rawRead ioScx).toNat) % 256)
      (if window then ly - (s.rawRead ioWy).toNat else (ly + (s.rawRead ioScy).toNat) % 256) := by
  have hx : ((x : Int) - (((s.rawRead ioWx).toNat : Int) - 7)).toNat = x + 7 - (s.rawRead ioWx).toNat := by omega
  simp only [backgroundPixel, hwindow, hx]
  split <;> rfl

theorem getD_backgroundLine (s : State) (ly : Nat) {x : Nat} (hx : x < 160) : (backgroundLine s ly).getD x 0 =
    if (s.rawRead ioLcdc).getLsbD 0 = true then backgroundPixel s ly x else 0 := by
  unfold backgroundLine
  split
  · rw [List.getD_eq_getElem _ _ (by simpa using hx), List.getElem_map, List.getElem_range]
  · rw [List.getD_replicate _ hx]

theorem getD_backgroundShades (s : State) {bg : List Shade} {x : Nat} (hx : x < 160) (hbg : bg.length = 160) :
    (backgroundShades s bg).getD x 0 =
      if (s.rawRead ioLcdc).getLsbD 0 = true then paletteShade (s.rawRead ioBgp) (bg.getD x 0) else 0 := by
  unfold backgroundShades
  split
  · rw [List.getD_eq_getElem _ _ (by rw [List.length_map, hbg]; exact hx), List.getElem_map,
      List.getD_eq_getElem _ _ (hbg ▸ hx)]
  · rw [List.getD_replicate _ hx]

/-- With the sprites off nothing is drawn over the background pass (R454). -/
theorem renderedRow_spritesOff (s : State) (ly : Nat) (h : (s.rawRead ioLcdc).getLsbD 1 = false) :
    renderedRow s ly = backgroundShades s (backgroundLine s ly) := by
  have hnone : selectedSprites s ly = [] := if_neg (by rw [h]; exact Bool.false_ne_true)
  rw [renderedRow, hnone]
  rfl

/-- Settles O51: a pixel of the pass is a pixel of its map (`backgroundPixel_eq`), and its shade is the palette's. -/
theorem backgroundPixels : Obligations.BackgroundPixels := by
  intro s ly x hx bg shades lcdc wx wy window map px py tile base addr lo hi
  have hindex : (bg.getD x 0).toNat = if lcdc.getLsbD 0 = true then 2 * hi + lo else 0 := by
    rw [getD_backgroundLine s ly hx, apply_ite BitVec.toNat, backgroundPixel_eq (windowCovers_iff s ly x), mapPixel,
      colourIndex_toNat, tileAddress_eq]
    rfl
  refine ⟨length_backgroundLine s ly, length_backgroundShades s bg (length_backgroundLine s ly), hindex, ?_,
    renderedRow_spritesOff s ly⟩
  rw [getD_backgroundShades s hx (length_backgroundLine s ly), apply_ite BitVec.toNat, paletteShade_toNat, hindex]
  split <;> rfl

/-! ### The sprites of a line (R454) -/

/-- The fields of an OAM entry, as the bytes follow each other (R79, R454). -/
theorem oamEntry_eq (s : State) (i : Nat) : oamEntry s i =
    { y := ((s.rawRead (0xFE00 + 4 * i)).toNat : Int) - 16, x := ((s.rawRead (0xFE00 + 4 * i + 1)).toNat : Int) - 8,
      tile := s.rawRead (0xFE00 + 4 * i + 2), attr := s.rawRead (0xFE00 + 4 * i + 3), index := i } := by
  simp only [oamEntry, Nat.add_right_comm]

theorem mem_selectedSprites {s : State} {ly : Nat} {p : Sprite} : p ∈ selectedSprites s ly ↔
    (s.rawRead ioLcdc).getLsbD 1 = true ∧ ∃ i < 40, p = oamEntry s i ∧ (oamEntry s i).y ≤ ly ∧
      (ly : Int) < (oamEntry s i).y + spriteHeight (s.rawRead ioLcdc) := by
  unfold selectedSprites
  dsimp only
  split
  case isTrue hon =>
    rw [and_iff_right hon, List.mem_filter, Bool.and_eq_true, decide_eq_true_iff, decide_eq_true_iff, List.mem_map]
    constructor
    · rintro ⟨⟨i, hi, rfl⟩, hcut⟩
      exact ⟨i, List.mem_range.mp hi, rfl, hcut⟩
    · rintro ⟨i, hi, rfl, hcut⟩
      exact ⟨⟨i, List.mem_range.mpr hi, rfl⟩, hcut⟩
  case isFalse hoff => exact iff_of_false List.not_mem_nil fun h => hoff h.1

/-! ### The drawing order (R455) -/

/-- The key (X, t, i) of R455, compared from the left. -/
def drawKey (p : Sprite) : ℤ ×ₗ ℕ ×ₗ ℕ := toLex (p.x, toLex (p.tile.toNat, p.index))

theorem drawKey_le_iff (p q : Sprite) : drawKey p ≤ drawKey q ↔
    p.x < q.x ∨ (p.x = q.x ∧ (p.tile < q.tile ∨ (p.tile = q.tile ∧ p.index ≤ q.index))) := by
  simp only [drawKey, Prod.Lex.toLex_le_toLex, BitVec.lt_def, BitVec.toNat_inj]

theorem drawnBefore_iff (p q : Sprite) : drawnBefore p q = true ↔ drawKey q < drawKey p := by
  simp only [drawnBefore, drawKey, Prod.Lex.toLex_lt_toLex, BitVec.lt_def, Bool.or_eq_true, Bool.and_eq_true,
    decide_eq_true_eq, BitVec.toNat_inj, eq_comm (a := q.x), eq_comm (a := q.tile)]

/-- `u` may be drawn before `w`: its key is not the smaller one. -/
abbrev MayPrecede (u w : Sprite) : Prop := ¬ drawnBefore w u = true

theorem mayPrecede_iff (u w : Sprite) : MayPrecede u w ↔ drawKey w ≤ drawKey u := by
  rw [MayPrecede, drawnBefore_iff, not_lt]

theorem insertSprite_eq_orderedInsert (p : Sprite) (l : List Sprite) : insertSprite p l = l.orderedInsert MayPrecede p := by
  induction l with
  | nil => rfl
  | cons q l ih => rw [insertSprite, List.orderedInsert_cons, ite_not, ih]

/-- The drawing order is an insertion sort by the keys (R455). -/
theorem sortSprites_eq_insertionSort (l : List Sprite) : sortSprites l = l.insertionSort MayPrecede := by
  induction l with
  | nil => rfl
  | cons p l ih => rw [sortSprites, insertSprite_eq_orderedInsert, ih, List.insertionSort_cons]

theorem pairwise_sortSprites (l : List Sprite) : (sortSprites l).Pairwise MayPrecede := by
  have htotal : Std.Total MayPrecede := ⟨fun u w => by
    rw [mayPrecede_iff, mayPrecede_iff]
    exact le_total _ _⟩
  have htrans : IsTrans Sprite MayPrecede := ⟨fun u v w huv hvw => by
    rw [mayPrecede_iff] at *
    exact hvw.trans huv⟩
  rw [sortSprites_eq_insertionSort]
  exact List.pairwise_insertionSort MayPrecede l

/-! ### Drawing (R456) -/

/-- Pixels 0 to 7 of each sprite in turn, over the background pass (R450). -/
theorem renderedRow_eq_foldl (s : State) (ly : Nat) : renderedRow s ly = (sortSprites (selectedSprites s ly)).foldl
    (fun row u => [0, 1, 2, 3, 4, 5, 6, 7].foldl (drawSpritePixel s ly (backgroundLine s ly) u) row)
    (backgroundShades s (backgroundLine s ly)) := rfl

/-- The address of the sprite's row of data: the pair of tiles of a tall sprite begins at an even one (R456). -/
theorem spriteRowAddress_eq (lcdc : Byte) (ly : Nat) (q : Sprite) : spriteRowAddress lcdc ly q =
    0x8000 + 16 * (if spriteHeight lcdc = 16 then q.tile.toNat / 2 * 2 else q.tile.toNat) +
      2 * (if q.attr.getLsbD 6 = true then spriteHeight lcdc - 1 - ((ly : Int) - q.y).toNat
        else ((ly : Int) - q.y).toNat) := by
  have hmask : ∀ v : Byte, (v &&& 0xFE).toNat = v.toNat / 2 * 2 := by decide +kernel
  have hheight : spriteHeight lcdc = 16 ↔ lcdc.getLsbD 2 = true := by
    rw [spriteHeight]
    cases lcdc.getLsbD 2 <;> decide
  simp only [spriteRowAddress, hheight, apply_ite BitVec.toNat, hmask]

/-- The colour index of a pixel of a sprite, mirrored in X or not (R456). -/
def spritePixelIndex (s : State) (ly : Nat) (q : Sprite) (pix : Nat) : Shade :=
  let addr := spriteRowAddress (s.rawRead ioLcdc) ly q
  colourIndex (s.rawRead addr) (s.rawRead (addr + 1)) (if q.attr.getLsbD 5 = true then pix else 7 - pix)

/-- What a pixel of a sprite can do to the row: set its column, if it is on the screen, not transparent and not behind the
background (R456). -/
theorem drawSpritePixel_eq (s : State) (ly : Nat) (bg row : List Shade) (q : Sprite) (pix : Nat) :
    drawSpritePixel s ly bg q row pix =
      if (0 ≤ q.x + pix ∧ q.x + pix ≤ 159) ∧ spritePixelIndex s ly q pix ≠ 0 ∧
          ¬ (q.attr.getLsbD 7 = true ∧ bg.getD (q.x + pix).toNat 0 ≠ 0) then
        row.set (q.x + pix).toNat (paletteShade
          (if q.attr.getLsbD 4 = true then s.rawRead ioObp1 else s.rawRead ioObp0) (spritePixelIndex s ly q pix))
      else row := by
  rw [drawSpritePixel, spritePixelIndex]
  dsimp only
  generalize colourIndex _ _ _ = ci
  by_cases hscreen : q.x + pix < 0 ∨ q.x + pix > 159
  · rw [if_pos hscreen, if_neg (by omega)]
  rw [if_neg hscreen]
  by_cases hclear : ci = 0
  · rw [if_pos hclear, if_neg fun h => h.2.1 hclear]
  rw [if_neg hclear]
  by_cases hbehind : q.attr.getLsbD 7 = true ∧ bg.getD (q.x + pix).toNat 0 ≠ 0
  · rw [if_pos hbehind, if_neg fun h => h.2.2 hbehind]
  · have hscreen' : 0 ≤ q.x + pix ∧ q.x + pix ≤ 159 := by omega
    rw [if_neg hbehind, if_pos (And.intro hscreen' (And.intro hclear hbehind)), apply_ite s.rawRead]

/-- The row after a column of it may have been set. -/
theorem getD_ite_set {P : Prop} [Decidable P] {row : List Shade} {x n : Nat} (v : Shade) (hx : x < row.length) :
    (if P then row.set n v else row).getD x 0 = if n = x ∧ P then v else row.getD x 0 := by
  by_cases hP : P
  · rw [if_pos hP, List.getD_eq_getElem _ _ (by rw [List.length_set]; exact hx), List.getElem_set,
      List.getD_eq_getElem _ _ hx]
    simp only [hP, and_true]
  · rw [if_neg hP, if_neg fun h => hP h.2]

/-- When a column of the row is that of the sprite's pixel, and the pixel is drawn. -/
theorem column_drawn_iff {column : Int} {x : Nat} (hx : x < 160) (visible behind : Prop) (bg : List Shade) :
    (column.toNat = x ∧ (0 ≤ column ∧ column ≤ 159) ∧ visible ∧ ¬ (behind ∧ bg.getD column.toNat 0 ≠ 0)) ↔
      (x : Int) = column ∧ visible ∧ ¬ (behind ∧ bg.getD x 0 ≠ 0) := by
  constructor
  · rintro ⟨rfl, hscreen, hdrawn⟩
    exact ⟨by omega, hdrawn⟩
  · rintro ⟨rfl, hdrawn⟩
    exact ⟨rfl, by omega, hdrawn⟩

/-- Settles O52: the drawing order is an insertion sort, and a pixel of a sprite sets one column of the row
(`drawSpritePixel_eq`). -/
theorem spriteDrawing : Obligations.SpriteDrawing := by
  intro s ly pix bg row p q hrow _ lcdc h chosen
  refine ⟨renderedRow_eq_foldl s ly, oamEntry_eq s, ?_, ?_, ?_, ?_⟩
  · rw [mem_selectedSprites]
    rfl
  · rw [sortSprites_eq_insertionSort]
    exact List.perm_insertionSort _ _
  · exact (pairwise_sortSprites chosen).imp fun h => (drawKey_le_iff _ _).mp ((mayPrecede_iff _ _).mp h)
  · intro _ r0 r tile addr bit ci pal x hx
    have hci : (spritePixelIndex s ly q pix).toNat = ci := by
      rw [spritePixelIndex, colourIndex_toNat, spriteRowAddress_eq]
      rfl
    have hvisible : spritePixelIndex s ly q pix ≠ 0 ↔ ci ≠ 0 := by
      rw [← hci]
      exact not_congr BitVec.toNat_inj.symm
    rw [drawSpritePixel_eq, getD_ite_set _ (hrow ▸ hx), apply_ite BitVec.toNat, paletteShade_toNat, hci]
    simp only [column_drawn_iff hx, hvisible]
    rfl

end Sys2Proof.Machine
end

section
/-! PROOFS. The statements about reset (70_reset_and_hazards.md): what a cartridge load takes from the image and the save, and
the registers and I/O bytes after reset. -/

namespace Sys2Proof.Machine

open Sys2Proof

/-! ### Reading a storage that a load fills -/

/-- A key that no entry has reads as the default. -/
theorem Memory.read_unlisted {β : Type} (dflt : Nat → β) (m : List (Nat × β)) (n : Nat) (h : ∀ cell ∈ m, cell.1 ≠ n) :
    Memory.read dflt m n = dflt n := by
  induction m with
  | nil => rfl
  | cons cell rest ih =>
    obtain ⟨hcell, hrest⟩ := List.forall_mem_cons.mp h
    rw [Memory.read, if_neg hcell, ih hrest]

/-- A read depends on the default at its own key only. -/
theorem Memory.read_congr_default {β : Type} {d d' : Nat → β} (m : List (Nat × β)) {n : Nat} (h : d n = d' n) :
    Memory.read d m n = Memory.read d' m n := by
  induction m with
  | nil => exact h
  | cons cell rest ih => rw [Memory.read, Memory.read, ih]

/-- Dropping the entries at and above a bound changes no read below it. -/
theorem Memory.read_filter_below {β : Type} (dflt : Nat → β) (m : List (Nat × β)) {bound n : Nat} (h : n < bound) :
    Memory.read dflt (m.filter fun cell => decide (cell.1 < bound)) n = Memory.read dflt m n := by
  induction m with
  | nil => rfl
  | cons cell rest ih =>
    rw [List.filter_cons]
    split
    · rw [Memory.read, Memory.read, ih]
    case isFalse hcell =>
      have hne : cell.1 ≠ n := by
        rintro rfl
        exact hcell (decide_eq_true h)
      rw [Memory.read, if_neg hne, ih]

/-- The first `k` bytes of an image as a storage: below `k` it reads as the image does, bytes past the image's end included
where the default there is 0 (R500), and elsewhere as the default. -/
theorem Image.read_upTo {dflt : Nat → Byte} (m : Image) (k off : Nat) (hzero : off < k → dflt off = 0) :
    Memory.read dflt (m.upTo k) off = if off < k then m.byte off else dflt off := by
  by_cases hin : off < min m.len k
  · obtain ⟨hlen, hk⟩ := lt_min_iff.mp hin
    rw [if_pos hk, Image.upTo, Memory.read_filter_below dflt m.cells hin, Image.byte, if_pos hlen]
    exact Memory.read_congr_default m.cells (hzero hk)
  · have hout : Memory.read dflt (m.upTo k) off = dflt off :=
      Memory.read_unlisted dflt _ off fun cell hcell heq =>
        hin (heq ▸ of_decide_eq_true (List.mem_filter.mp hcell).2)
    rw [hout]
    split
    case isTrue hk => rw [hzero hk, Image.byte, if_neg fun hlen => hin (lt_min hlen hk)]
    case isFalse => rfl

theorem rawReset_below_io {n : Nat} (h : n < 0xFF00) : rawReset n = 0 := if_pos h

/-- `Raw` after a load: the first 0x8000 bytes of the image, and the reset contents above them (R500, R505, R506). -/
theorem rawRead_loadCartridge (p : Params) (image : Image) (save : Option Image) (schedule : List (List Buttons)) (off : Nat) :
    (loadCartridge p image save schedule).rawRead off = if off < 0x8000 then image.byte off else rawReset off :=
  Image.read_upTo image 0x8000 off fun h => rawReset_below_io (by omega)

/-- The ROM image after a load is the file, with 0xFF past its end (R74, R500). -/
theorem romRead_loadCartridge (p : Params) (image : Image) (save : Option Image) (schedule : List (List Buttons)) (off : Nat) :
    (loadCartridge p image save schedule).romRead off = if off < image.len then image.byte off else 0xFF := by
  have hread : Memory.read zeroByte (image.upTo image.len) off = if off < image.len then image.byte off else 0 :=
    Image.read_upTo image image.len off fun _ => rfl
  show (if off < image.len then Memory.read zeroByte (image.upTo image.len) off else 0xFF) = _
  split
  case isTrue h => rw [hread, if_pos h]
  case isFalse => rfl

/-- Without a save, or without a battery, a load leaves nothing in the RAM banks (R500, R503). -/
theorem ramBanks_loadCartridge_empty (p : Params) (image : Image) (save : Option Image) (schedule : List (List Buttons))
    (h : save = none ∨ (loadCartridge p image save schedule).hasBattery = false) :
    (loadCartridge p image save schedule).ramBanks = [] := by
  obtain rfl | hbattery := h
  · exact ite_self []
  · exact if_neg (Bool.eq_false_iff.mp hbattery)

/-- The RAM banks of a cartridge with a battery are the save's first 0x8000 bytes (R500, R503). -/
theorem ramBanks_loadCartridge_save (p : Params) (image file : Image) (schedule : List (List Buttons))
    (h : (loadCartridge p image (some file) schedule).hasBattery = true) :
    (loadCartridge p image (some file) schedule).ramBanks = file.upTo 0x8000 := if_pos h

/-! ### The header's two bytes (R501, R502) -/

/-- The codes with a battery, by inspection of the decided table's 256 lookups (R501). -/
theorem cartType_battery_iff : ∀ code : Byte,
    code ∈ ([0x03, 0x06, 0x09, 0x0F, 0x10, 0x13] : List Byte) ↔ (cartType Params.decided code).battery = true := by
  decide

/-- The codes of each controller, by inspection of the decided table's 256 lookups (R501). -/
theorem cartType_family_iff : ∀ code : Byte,
    (code ∈ ([0x01, 0x02, 0x03] : List Byte) ↔ (cartType Params.decided code).family = .mbc1) ∧
    (code ∈ ([0x05, 0x06] : List Byte) ↔ (cartType Params.decided code).family = .mbc2) ∧
    (code ∈ ([0x0F, 0x10, 0x11, 0x12, 0x13] : List Byte) ↔ (cartType Params.decided code).family = .mbc3) := by
  decide

/-- `rom_bank_count` over the value of the header byte (R502). -/
theorem romBankCountOf_eq (size : Byte) :
    romBankCountOf size = if size.toNat ≤ 8 then some (2 ^ (size.toNat + 1)) else if size.toNat = 0x52 then some 72
      else if size.toNat = 0x53 then some 80 else if size.toNat = 0x54 then some 96 else none := by
  simp only [romBankCountOf, BitVec.le_def, ← BitVec.toNat_inj]
  rfl

/-- The header bytes that R502 recognizes. -/
theorem romBankCountOf_isSome_iff (size : Byte) :
    (romBankCountOf size).isSome = true ↔ size.toNat ≤ 8 ∨ size.toNat ∈ [0x52, 0x53, 0x54] := by
  rw [romBankCountOf_eq]
  split_ifs <;> simp [*]

/-- An unrecognized header byte counts as two banks (R502). -/
theorem romBankCountOf_getD (size : Byte) :
    (romBankCountOf size).getD 2 = if size.toNat ≤ 8 then 2 ^ (size.toNat + 1) else if size.toNat = 0x52 then 72
      else if size.toNat = 0x53 then 80 else if size.toNat = 0x54 then 96 else 2 := by
  simp only [romBankCountOf_eq, apply_ite (Option.getD · 2), Option.getD_some, Option.getD_none]

/-- A load selects a controller when the type table names it and the bank count is recognized (R501, R502). -/
theorem family_loadCartridge_iff (p : Params) (image : Image) (save : Option Image) (schedule : List (List Buttons))
    {fam : MbcFamily} (hfam : fam ≠ .noMbc) :
    (loadCartridge p image save schedule).family = fam ↔
      (cartType p (image.byte 0x147)).family = fam ∧
        ((image.byte 0x148).toNat ≤ 8 ∨ (image.byte 0x148).toNat ∈ [0x52, 0x53, 0x54]) := by
  rw [← romBankCountOf_isSome_iff]
  show (if (romBankCountOf (image.byte 0x148)).isSome then (cartType p (image.byte 0x147)).family else .noMbc) = fam ↔ _
  split
  case isTrue hcount => exact (and_iff_left hcount).symm
  case isFalse hcount => exact iff_of_false hfam.symm fun h => hcount h.2

/-- Settles O53, from what each storage of a loaded cartridge reads as and the two tables of the header. -/
theorem Reset.loadCartridge : Obligations.LoadCartridge := by
  intro image save schedule s n
  obtain ⟨hmbc1, hmbc2, hmbc3⟩ := cartType_family_iff (image.byte 0x147)
  have hfamily {fam : MbcFamily} (hfam : fam ≠ .noMbc) := family_loadCartridge_iff Params.decided image save schedule hfam
  refine ⟨rfl, cartType_battery_iff _, ?_, ?_, ?_, romBankCountOf_getD _, fun _ off => ?_, fun h => ?_, ?_⟩
  · rw [hmbc1]
    exact (hfamily (by decide)).symm
  · rw [hmbc2]
    exact (hfamily (by decide)).symm
  · rw [hmbc3]
    exact (hfamily (by decide)).symm
  · have hrom := romRead_loadCartridge Params.decided image save schedule off
    have hraw := rawRead_loadCartridge Params.decided image save schedule off
    refine ⟨fun h => hrom.trans (if_pos h), fun h => hrom.trans (if_neg h.not_gt), fun h => hraw.trans (if_pos h),
      fun hlow hhigh => ?_, fun h => hraw.trans (if_neg (by omega))⟩
    exact (hraw.trans (if_neg hlow.not_gt)).trans (rawReset_below_io hhigh)
  · have hempty : s.ramBanks = [] := ramBanks_loadCartridge_empty Params.decided image save schedule h
    exact ⟨hempty, fun off => congrArg (Memory.read zeroByte · off) hempty⟩
  · rintro file rfl hbattery _ off hoff
    have hbanks : s.ramBanks = file.upTo 0x8000 := ramBanks_loadCartridge_save Params.decided image file schedule hbattery
    calc s.ramRead off
      _ = Memory.read zeroByte (file.upTo 0x8000) off := congrArg (Memory.read zeroByte · off) hbanks
      _ = file.byte off := (Image.read_upTo file 0x8000 off fun _ => rfl).trans (if_pos hoff)

/-! ### After reset (R504, R506) -/

/-- The offsets from 0xFF00 of the I/O bytes that reset sets to something else than 0x00 (R506). -/
def ioResetOffsets : List Nat :=
  [0x00, 0x10, 0x11, 0x12, 0x14, 0x16, 0x19, 0x1A, 0x1B, 0x1C, 0x1E, 0x20, 0x23, 0x24, 0x25, 0x26, 0x40, 0x47, 0x48, 0x49]

theorem ioReset_keys : ioReset.map Prod.fst = ioResetOffsets.map (0xFF00 + ·) := rfl

/-- An I/O byte that reset's table does not list is 0x00 (R506). -/
theorem rawRead_reset_unlisted {n : Nat} (h : n ∉ ioResetOffsets) : State.reset.rawRead (0xFF00 + n) = 0 := by
  have hcells : ∀ cell ∈ ioReset, cell.1 ≠ 0xFF00 + n := by
    intro cell hcell heq
    have hkey : 0xFF00 + n ∈ ioResetOffsets.map (0xFF00 + ·) := by
      rw [← ioReset_keys, ← heq]
      exact List.mem_map_of_mem hcell
    obtain ⟨k, hk, hkn⟩ := List.mem_map.mp hkey
    exact h (Nat.add_left_cancel hkn ▸ hk)
  calc State.reset.rawRead (0xFF00 + n)
    _ = Memory.read (fun _ => 0) ioReset (0xFF00 + n) := if_neg (by omega)
    _ = 0 := Memory.read_unlisted _ ioReset _ hcells

/-- Settles O54: the fields and the listed I/O bytes are the reset state's own, and every other I/O byte is in no cell of
`ioReset`. -/
theorem resetValues : Obligations.ResetValues := by
  refine ⟨by decide, by decide, by decide, by decide, rfl, rfl, rfl, rfl, rfl, rfl, rfl, rfl, rfl, rfl, rfl, rfl, rfl, rfl, rfl,
    rfl, rfl, by decide, by decide, by decide, by decide, ?_⟩
  exact fun n _ h => rawRead_reset_unlisted h

end Sys2Proof.Machine
end
